-- ==== Sys2Proof/Word.lean ====
section
/-! DEFINITION. The number types every other file shares: bytes of the setup link, the digits and station codes of the line, the eight signalling tones. -/

namespace Sys2Proof

/-- A byte of the setup link or of the settings page (R158, R163). -/
abbrev Byte := BitVec 8

/-- A hexadecimal digit 0..15 of the line code. A station code is a digit 1..15; 0 means all stations (00_scope 0.4, R10). -/
abbrev Code := Fin 16

/-- The index of a signalling tone T0..T7 (R1). -/
abbrev Tone := Fin 8

end Sys2Proof
end

