-- ==== Sys2Proof/Syntax.lean ====
section
/-! DEFINITION. The commands: one constructor per row of spec/opcode_table.json. The table gives no row any field. The operands are what the environment supplies at the step: input readings, bytes, and the order of events that the manual lets be taken in either order (log 6, log 23). -/

namespace Sys2Proof

/-- The two voices that play scripts: voice 2 on the earpiece and voice 3 on the ringer (R52). -/
inductive ScriptVoice where
  | earpiece
  | ringer
  deriving DecidableEq, Repr

/-- The order in which the Line View, the Answer Unit and the Request Unit take one word (R49) or one hook report (R126). The manual does not order these deliveries, so the environment chooses. -/
inductive DeliveryOrder where
  | viewAnswerRequest
  | viewRequestAnswer
  | answerViewRequest
  | answerRequestView
  | requestViewAnswer
  | requestAnswerView
  deriving DecidableEq, Repr

/-- The orders that the manual leaves open at one block end. Each flag puts one event before the block's decision. -/
structure EndOrder where
  /-- Line idle is taken before a word delivered at the same block end (R95). -/
  idleFirst : Bool
  /-- The slot's expiry is taken before a word delivered at the same block end (R106, R116 to R118). -/
  slotFirst : Bool
  /-- The request record's expiry is taken before the decision of the same block end (R131, R141). -/
  recordFirst : Bool
  /-- The Trunk Interface is taken before a word delivered at the same block end (R151, R153). -/
  trunkFirst : Bool
  /-- The transmitter takes the decision before the receiver does (R29). -/
  txFirst : Bool
  /-- The order among the blocks that take the delivered word (R49). -/
  delivery : DeliveryOrder
  deriving DecidableEq, Repr

/-- The commands of the part. -/
inductive Instr where
  /-- POWER_ON_RESET (R161). -/
  | powerOnReset
  /-- LINE_SAMPLE (R13): `x` is the converter's reading. -/
  | lineSample (x : Int)
  /-- BLOCK_END (R14): the readings of LINE_LOADED, TRUNK_RING and TRUNK_CODE, and the order of simultaneous events. -/
  | blockEnd (lineLoaded trunkRing : Bool) (trunkCode : Code) (order : EndOrder)
  /-- LINE_IDLE (R95). -/
  | lineIdle
  /-- UNUSABLE_LIMIT (R39). -/
  | unusableLimit
  /-- OVER_LONG_SYMBOL (R41). -/
  | overLongSymbol
  /-- STUCK_TONE (R42). -/
  | stuckTone
  /-- GAP_LIMIT (R45). -/
  | gapLimit
  /-- CHECKED_ATTEMPT_START (R76). -/
  | checkedAttemptStart
  /-- TALK_OVER (R79). -/
  | talkOver
  /-- REQUEST_WAIT_LIMIT (R77). -/
  | requestWaitLimit
  /-- BACK_OFF_END (R81). -/
  | backOffEnd
  /-- TICK (R57): the levels of the HOOK and DIAL contacts, true for closed. -/
  | tick (hookClosed dialClosed : Bool)
  /-- SCRIPT_STEP_END (R57) on one of the two script voices. -/
  | scriptStepEnd (voice : ScriptVoice)
  /-- HOOK_DEBOUNCED_CHANGE (R126): the order in which the report is taken. -/
  | hookDebouncedChange (order : DeliveryOrder)
  /-- HANG_UP (R126): the order in which the report is taken. -/
  | hangUp (order : DeliveryOrder)
  /-- PULSE (R128). -/
  | pulse
  /-- INVALID_DIGIT (R128). -/
  | invalidDigit
  /-- DIGIT_END (R128). -/
  | digitEnd
  /-- BARRED_RELEASE (R128). -/
  | barredRelease
  /-- DIGIT_WAIT_EXPIRY (R129). -/
  | digitWaitExpiry
  /-- COMPLETION_HOLD_EXPIRY (R116). -/
  | completionHoldExpiry
  /-- LINGER_EXPIRY (R117). -/
  | lingerExpiry
  /-- POLL_LOSS_EXPIRY (R118). -/
  | pollLossExpiry
  /-- RING_REPLY_EXPIRY (R135). -/
  | ringReplyExpiry
  /-- DELAY_EXPIRY (R137). -/
  | delayExpiry
  /-- POLL_REPLY_EXPIRY (R137). -/
  | pollReplyExpiry
  /-- REVERT_EXPIRY (R141). -/
  | revertExpiry
  /-- SHOW_EXPIRY (R143). -/
  | showExpiry
  /-- ORIGINATE (R151). -/
  | originate
  /-- TRUNK_LAPSE (R153). -/
  | trunkLapse
  /-- DOZE_ENTRY (R166). -/
  | dozeEntry
  /-- SETUP_START_BIT (R167). -/
  | setupStartBit
  /-- SETUP_BYTE (R163): the byte, and whether its stop bit was high. -/
  | setupByte (b : Byte) (stopHigh : Bool)
  /-- SETUP_GAP_TIMEOUT (R163). -/
  | setupGapTimeout
  /-- SETUP_REPLY_START (R163). -/
  | setupReplyStart
  /-- READ (R163) of cell `n`. -/
  | read (n : Byte)
  /-- ENTER_SETUP (R164). -/
  | enterSetup
  /-- LEAVE_SETUP (R165). -/
  | leaveSetup
  /-- ERASE (R159). -/
  | erase
  /-- WRITE (R163) of value `v` into cell `n`. -/
  | write (n v : Byte)
  /-- CONDITIONS (R163). -/
  | conditions
  /-- CLEAR_CONDITIONS (R163). -/
  | clearConditions
  /-- STATE (R163). -/
  | stateReport
  /-- RESTART (R163). -/
  | restart
  /-- BADCMD (R163): a first byte that names no command. -/
  | badcmd (b : Byte)
  /-- RESTART_AFTER_REPLY (R161). -/
  | restartAfterReply
  /-- ERASE_COMPLETE (R159). -/
  | eraseComplete
  /-- WRITE_COMPLETE (R160). -/
  | writeComplete
  /-- ENTRY_WINDOW_CLOSE (R162). -/
  | entryWindowClose
  /-- POWER_FAIL (R159). -/
  | powerFail
  deriving DecidableEq, Repr

end Sys2Proof
end

