-- ==== Sys2Proof/Machine/State.lean ====
section
/-! DEFINITION. The state of the part: every item the manual's chapters name, as plain data, and its value right after a power-on reset. The few fields that are the model's own say so. -/

namespace Sys2Proof.Machine

/-! ## Names shared by the blocks -/

/-- The blocks that queue words and start scripts (R71, R52). -/
inductive Agent where
  | answerUnit
  | requestUnit
  | lineView
  | dialDecoder
  deriving DecidableEq, Repr

/-- The seven word kinds (R3, R6). -/
inductive Kind where
  | ring
  | poll
  | hold
  | answer
  | refuse
  | clear
  | brk
  deriving DecidableEq, Repr

/-- The call classes (R7). -/
inductive CallClass where
  | ordinary
  | trunk
  | urgent
  deriving DecidableEq, Repr

/-- The fields of a word but its check digit, which R9 computes: kind, to-code, from-code and, in RING and REFUSE, the argument. -/
structure LineWord where
  kind : Kind
  dst : Code
  src : Code
  arg : Option Code
  deriving DecidableEq, Repr

/-- A tone pair (i, j), i < j (R2). -/
structure Pair where
  lo : Tone
  hi : Tone
  deriving DecidableEq, Repr

/-- A block decision (R23). -/
inductive Decision where
  | silent
  | noise
  | pair (p : Pair)
  | overlap
  | unusable
  deriving DecidableEq, Repr

/-! ## Line front end and Band Detector -/

/-- Where the part stands in the block and in the tick (R14, R57): samples taken so far, 160 and 80 when the block or tick is full and its end not yet taken. -/
structure Frame where
  pos : Nat
  tickPos : Nat
  deriving DecidableEq, Repr

/-- A filter's two values: s_{n-1} and s_{n-2} before sample n (R16). -/
structure FilterState where
  s1 : Int
  s2 : Int
  deriving DecidableEq, Repr

/-- Eight values, one per signalling tone. -/
structure Bank (α : Type) where
  t0 : α
  t1 : α
  t2 : α
  t3 : α
  t4 : α
  t5 : α
  t6 : α
  t7 : α
  deriving DecidableEq, Repr

/-- How the block in progress is measured: at full rate, or as the doze block with this number modulo 4 (R31, R33). -/
inductive DetectorMode where
  | full
  | doze (number : Nat)
  deriving DecidableEq, Repr

/-- The Band Detector (R14 to R33). -/
structure Detector where
  filters : Bank FilterState
  sumSq : Nat
  clips : Nat
  /-- The noise floor F (R21). -/
  floor : Nat
  mode : DetectorMode
  deriving DecidableEq, Repr

/-- The condition set: seven sticky flags (R163). -/
structure Conditions where
  overdrive : Bool
  brokenWord : Bool
  clash : Bool
  sendAbandoned : Bool
  laneFull : Bool
  stuckTone : Bool
  badTrunkCode : Bool
  deriving DecidableEq, Repr

/-! ## Word Receiver -/

/-- The symbol record (R35). A candidate's length is always 1. -/
inductive SymbolRecord where
  | idle
  | candidate (p : Pair) (own : Bool)
  | held (p : Pair) (length : Nat) (own void : Bool)
  deriving DecidableEq, Repr

/-- The places of a word (R35, R44). -/
inductive Place where
  | opening
  | kind
  | toCode
  | fromCode
  | argument
  | check
  deriving DecidableEq, Repr

/-- The word record (R35). The gap count stands at 6 only while GAP_LIMIT is due (log 2). -/
structure WordRecord where
  place : Place
  kind : Option Kind
  dst : Option Code
  src : Option Code
  arg : Option Code
  gap : Nat
  own : Bool
  deriving DecidableEq, Repr

/-- The Word Receiver (R35). The unusable count stands at 3 only while UNUSABLE_LIMIT is due (log 2). -/
structure Receiver where
  symbol : SymbolRecord
  word : Option WordRecord
  unusable : Nat
  deriving DecidableEq, Repr

/-! ## Tone Engine -/

/-- The scripts of the cadence ROM (R69, R70). -/
inductive Script where
  | ring (n : Fin 8)
  | trunk
  | urgent
  | alert
  | revert
  | instruct
  | ringback
  | busy
  | error
  | cleared
  | lockout
  | answerWait
  | callerGone
  | breakWarn
  | urgentCall
  deriving DecidableEq, Repr

/-- A line voice, 0 or 1 (R52). -/
structure LineVoice where
  play : Bool
  phase : Nat
  step : Nat
  level : Nat
  deriving DecidableEq, Repr

/-- Voice 2 or 3 with its script record (R52). The rank is the script's in ROM. `begun` is the model's own: the script's step 0 has begun at a tick boundary (R57). -/
structure CadenceVoice where
  play : Bool
  phase : Nat
  step : Nat
  level : Nat
  script : Option Script
  index : Nat
  remaining : Nat
  plays : Nat
  stopPending : Bool
  starter : Option Agent
  begun : Bool
  deriving DecidableEq, Repr

/-- The Tone Engine (R52); `offHook` is its reckoning of the hook (R62). -/
structure Engine where
  v0 : LineVoice
  v1 : LineVoice
  ear : CadenceVoice
  bell : CadenceVoice
  offHook : Bool
  deriving DecidableEq, Repr

/-- The output pins that hold a value of their own (00_scope 0.3); LAMP and SETUP_TX stand with their drivers. -/
structure Outputs where
  lineOut : Int
  earpiece : Int
  ringer : Bool
  privacy : Bool
  trunkConnect : Bool
  deriving DecidableEq, Repr

/-- The input pins as the environment last presented them (00_scope 0.3). -/
structure InputPins where
  hookClosed : Bool
  dialClosed : Bool
  lineLoaded : Bool
  trunkRing : Bool
  trunkCode : Code
  deriving DecidableEq, Repr

/-! ## Word Transmitter -/

/-- The two lanes (R71). -/
inductive Lane where
  | prompt
  | request
  deriving DecidableEq, Repr

/-- An entry of a lane (R71). -/
structure Entry where
  word : LineWord
  owner : Agent
  attempts : Nat
  wait : Nat
  retry : Bool
  deriving DecidableEq, Repr

/-- The attempt in progress: the lane whose head is being sent, the position in the word's span, and whether it is checked (R71, R79). -/
structure Attempt where
  lane : Lane
  pos : Nat
  checked : Bool
  deriving DecidableEq, Repr

/-- The Word Transmitter (R71). The last three fields are the model's own: setup entry stopped an attempt in the block in progress (R47), CHECKED_ATTEMPT_START is due, BACK_OFF_END is due (log 2, log 29). -/
structure Transmitter where
  prompt : List Entry
  request : List Entry
  attempt : Option Attempt
  quiet : Nat
  backOff : Nat
  cutBlock : Bool
  startDue : Bool
  backOffDue : Bool
  deriving DecidableEq, Repr

/-! ## Line View -/

/-- The view record (R87): FREE; HELD with A, B and the class; BROKEN with the breaker, the target and the parties of the call broken into, if any. -/
inductive ViewRecord where
  | free
  | held (a b : Code) (cls : CallClass)
  | broken (breaker target : Code) (parties : Option (Code × Code))
  deriving DecidableEq, Repr

/-- An entry of the ring memory (R87, R89). -/
structure RingEntry where
  caller : Code
  called : Code
  cls : CallClass
  deriving DecidableEq, Repr

/-- The pending clear (R87): the to-code of the view's CLEAR and the parties of the call it ends. -/
structure PendingClear where
  dst : Code
  a : Code
  b : Code
  deriving DecidableEq, Repr

/-- The Line View (R87). -/
structure LineView where
  record : ViewRecord
  idle : Nat
  rings : List RingEntry
  pendingClear : Option PendingClear
  offHook : Bool
  deriving DecidableEq, Repr

/-! ## Answer Unit -/

/-- What rings a call (R104). -/
inductive Sounder where
  | ringer
  | earpiece
  deriving DecidableEq, Repr

/-- The states of a slot that is not EMPTY (R104); the sounder is present in RINGING alone. -/
inductive CallPhase where
  | ringing (sounder : Sounder)
  | answered
  | delivered
  | expired
  deriving DecidableEq, Repr

/-- The terminating call in the slot (R104). -/
structure Call where
  phase : CallPhase
  caller : Code
  cls : CallClass
  cycles : Nat
  marks : Nat
  timer : Nat
  deriving DecidableEq, Repr

/-- The Answer Unit (R104, R105); no call is the EMPTY slot. -/
structure AnswerUnit where
  slot : Option Call
  offHook : Bool
  deriving DecidableEq, Repr

/-! ## Request Unit -/

/-- Why a request failed (R131, R142). -/
inductive FailReason where
  | busy
  | noCall
  | noAnswer
  | locked
  | glare
  | noStation
  | lost
  | noisy
  deriving DecidableEq, Repr

/-- The states of a record that is not NONE (R131). -/
inductive RequestState where
  | requesting
  | waiting
  | reverting
  | failed (reason : FailReason)
  deriving DecidableEq, Repr

/-- What the record is waiting for (R131). -/
inductive RequestWait where
  | sending
  | reply
  | delay
  | revert
  | showing
  | stopped
  deriving DecidableEq, Repr

/-- The originating call (R131). -/
structure Request where
  state : RequestState
  called : Code
  cls : CallClass
  sends : Nat
  misses : Nat
  away : Bool
  relifted : Bool
  wait : RequestWait
  timer : Nat
  deriving DecidableEq, Repr

/-- The Request Unit (R131); no record is NONE. -/
structure RequestUnit where
  record : Option Request
  pendingBreak : Option Code
  offHook : Bool
  deriving DecidableEq, Repr

/-! ## Dial Decoder -/

/-- The debounced reading of HOOK (R125). -/
inductive HookState where
  | unknown
  | offHook
  | onHook
  deriving DecidableEq, Repr

/-- The dial state (R125). -/
inductive DialState where
  | idle
  | counting
  | barred
  deriving DecidableEq, Repr

/-- The Dial Decoder (R125). `hangUpDue` is the model's own: HANG_UP is due (log 2). -/
structure DialDecoder where
  hook : HookState
  rawLevel : Option Bool
  rawRun : Nat
  period : Nat
  hangUpDue : Bool
  state : DialState
  pulses : Nat
  opening : Nat
  closure : Nat
  buffer : List Nat
  digitWait : Option Nat
  deriving DecidableEq, Repr

/-! ## Trunk Interface -/

/-- The incoming state (R148). -/
inductive IncomingState where
  | idle
  | rejected
  | deferred
  | offered
  | done
  deriving DecidableEq, Repr

/-- The Trunk Interface (R148). Presence is PRESENT while the silence count is below 300 (R149). `testDue` is the model's own: R151's test of the block end just passed is still to be made (log 6). -/
structure TrunkInterface where
  silence : Nat
  latched : Option Code
  incoming : IncomingState
  testDue : Bool
  deriving DecidableEq, Repr

/-! ## Settings Store, Setup Link, Doze Control, Lamp Driver -/

/-- The nine cells of the settings page (R158). -/
structure Page where
  c0 : Byte
  c1 : Byte
  c2 : Byte
  c3 : Byte
  c4 : Byte
  c5 : Byte
  c6 : Byte
  c7 : Byte
  c8 : Byte
  deriving DecidableEq, Repr

/-- What the store is doing (R159, R160). `left` is the model's own: the samples that remain of the 12 ms or the 2 ms (log 24). -/
inductive StoreOp where
  | idle
  | erasing (left : Nat)
  | writing (n : Nat) (v : Byte) (left : Nat)
  deriving DecidableEq, Repr

/-- The Settings Store's page and work (R158 to R160). -/
structure Store where
  page : Page
  op : StoreOp
  deriving DecidableEq, Repr

/-- The settings in force (R158). -/
structure Settings where
  code : Code
  cadence : Fin 8
  limit : Nat
  permissions : Nat
  level : Nat
  sensitivity : Nat
  lenient : Bool
  revert : Nat
  deriving DecidableEq, Repr

/-- The reply being sent. `left` is the model's own: a hundred for each byte, three fewer at each sample, which is ten bits at 2400 bit/s (log 24). -/
structure Sending where
  bytes : List Byte
  left : Nat
  deriving DecidableEq, Repr

/-- The Setup Link (R162, R163). `partialCmd` holds the bytes received so far; `awaitRestart` is set by the OK to RESTART or LEAVE-SETUP. `windowDue` is the model's own: ENTRY_WINDOW_CLOSE is due (log 2). -/
structure SetupLink where
  setupMode : Bool
  powerOn : Nat
  windowDue : Bool
  partialCmd : List Byte
  gap : Nat
  replies : List (List Byte)
  sending : Option Sending
  awaitRestart : Bool
  deriving DecidableEq, Repr

/-- Doze Control (R166). -/
structure Doze where
  dozing : Bool
  count : Nat
  deriving DecidableEq, Repr

/-- The lamp patterns (R168). -/
inductive LampPattern where
  | off
  | steady
  | fastFlash
  | doubleFlash
  | tripleFlash
  | slowFlash
  deriving DecidableEq, Repr

/-- The Lamp Driver: the pattern shown, the tick of its cycle, and the LAMP output (R168). -/
structure Lamp where
  pattern : LampPattern
  phase : Nat
  lit : Bool
  deriving DecidableEq, Repr

/-! ## Events between the blocks -/

/-- Why a word left the transmitter unsent (R82). -/
inductive AbandonCause where
  | full
  | displaced
  | noisy
  | spoiled
  deriving DecidableEq, Repr

/-- The events that one block sends another and that the receiver takes as events of their own: the transmitter's notices (R82), the engine's finish, lost and ringer free (R66, R67), the view's held by others, naming its parties as they now stand (R99). -/
inductive Event where
  | sent (owner : Agent) (w : LineWord)
  | abandoned (owner : Agent) (w : LineWord) (cause : AbandonCause)
  | lost (agent : Agent) (script : Script)
  | finish (agent : Agent) (script : Script)
  | ringerFree
  | heldByOthers (agent : Agent) (parties : Option (Code × Code))
  deriving DecidableEq, Repr

/-! ## The whole part -/

/-- The state of the part. `pending` is the queue of commands waiting, `inbox` the events raised and not yet taken, `draws` the number of free values drawn: these three are the model's own. -/
structure State where
  pending : List Instr
  powered : Bool
  pins : InputPins
  frame : Frame
  det : Detector
  conds : Conditions
  rx : Receiver
  engine : Engine
  out : Outputs
  tx : Transmitter
  view : LineView
  answer : AnswerUnit
  request : RequestUnit
  dial : DialDecoder
  trunk : TrunkInterface
  store : Store
  settings : Option Settings
  link : SetupLink
  doze : Doze
  lamp : Lamp
  inbox : List Event
  draws : Nat
  deriving DecidableEq, Repr

/-- No command of this block ends in a fault: the manual names no event that stops the part with an error (its errors are conditions, status bytes and failure reasons). The type has no constructor, so nobody raises one: safe. -/
inductive Fault where
  deriving DecidableEq, Repr

/-- The refusals. -/
inductive Refusal where
  /-- A row without a meaning, raised by `exec`'s arm for it. Every row has its meaning, so nobody raises it: safe. -/
  | notModelled (mnemonic : String)
  deriving DecidableEq, Repr

/-! ## Reset values, by block -/

/-- The same value for every tone. -/
def Bank.const {α : Type} (x : α) : Bank α := ⟨x, x, x, x, x, x, x, x⟩

/-- R14: the framing starts afresh. -/
def Frame.reset : Frame := ⟨0, 0⟩

/-- R14, R21: sums, filters and count zero, F at 64, full rate. -/
def Detector.reset : Detector := ⟨.const ⟨0, 0⟩, 0, 0, 64, .full⟩

/-- R161: a power-on reset clears the condition set. -/
def Conditions.clear : Conditions := ⟨false, false, false, false, false, false, false⟩

/-- R35. -/
def Receiver.reset : Receiver := ⟨.idle, none, 0⟩

/-- R52. -/
def LineVoice.reset : LineVoice := ⟨false, 0, 0, 0⟩

/-- R52. -/
def CadenceVoice.reset : CadenceVoice := ⟨false, 0, 0, 0, none, 0, 0, 0, false, none, false⟩

/-- R52, R62. -/
def Engine.reset : Engine := ⟨.reset, .reset, .reset, .reset, false⟩

/-- R52, R100, R101: the outputs after either reset. -/
def Outputs.reset : Outputs := ⟨0, 0, false, false, false⟩

/-- R71. -/
def Transmitter.reset : Transmitter := ⟨[], [], none, 0, 0, false, false, false⟩

/-- R87. -/
def LineView.reset : LineView := ⟨.free, 0, [], none, false⟩

/-- R104, R105. -/
def AnswerUnit.reset : AnswerUnit := ⟨none, false⟩

/-- R131. -/
def RequestUnit.reset : RequestUnit := ⟨none, none, false⟩

/-- R125. -/
def DialDecoder.reset : DialDecoder := ⟨.unknown, none, 0, 0, false, .idle, 0, 0, 0, [], none⟩

/-- R148. -/
def TrunkInterface.reset : TrunkInterface := ⟨300, none, .idle, false⟩

/-- An erased page (R158). -/
def Page.erased : Page := ⟨0xFF, 0xFF, 0xFF, 0xFF, 0xFF, 0xFF, 0xFF, 0xFF, 0xFF⟩

/-- R162, R163. -/
def SetupLink.reset : SetupLink := ⟨false, 0, false, [], 0, [], none, false⟩

/-- R166. -/
def Doze.reset : Doze := ⟨false, 0⟩

/-- R168: both resets leave the lamp off. -/
def Lamp.reset : Lamp := ⟨.off, 0, false⟩

/-- The part right after a power-on reset with an erased settings page, hence UNSET (R158, R161). DESIGN CHOICE, unsafe: the page's first contents (log 1) and the input levels before the environment presents them (log 12). -/
def State.reset : State where
  pending := []
  powered := true
  pins := ⟨false, true, false, false, 0⟩
  frame := .reset
  det := .reset
  conds := .clear
  rx := .reset
  engine := .reset
  out := .reset
  tx := .reset
  view := .reset
  answer := .reset
  request := .reset
  dial := .reset
  trunk := .reset
  store := ⟨.erased, .idle⟩
  settings := none
  link := .reset
  doze := .reset
  lamp := .reset
  inbox := []
  draws := 0

end Sys2Proof.Machine
end

