-- ==== Sys2Proof/Machine/Act.lean ====
section
/-! DEFINITION. The form every meaning has: no command faults or refuses, and a part without supply does nothing (log 3, log 10). -/

namespace Sys2Proof.Machine

/-- The next state of a command that a powered part takes; without supply the part is stopped. -/
def act (f : State → State) (s : State) : Host.Outcome State Fault Refusal :=
  .next (if s.powered then f s else s)

end Sys2Proof.Machine
end

