-- ==== Sys2Proof/Machine/LineCode.lean ====
section
/-! DEFINITION. The line code of chapter 1: tones, symbols, words, the check digit and the validity test. -/

namespace Sys2Proof.Machine

/-! ## Tones and symbols -/

/-- The column c_k of the table of R1, as Q14 integers. -/
def toneCoeffs : Bank Int := ⟨28590, 26510, 24062, 21281, 14876, 7650, 0, -7650⟩

/-- The phase step of a tone (R1). -/
def tonePhaseStep (t : Tone) : Nat :=
  [5325, 6554, 7782, 9011, 11469, 13926, 16384, 18842].getD t.val 0

/-- R2: the index of a pair, i × (15 − i) / 2 + (j − i − 1). -/
def Pair.index (p : Pair) : Nat := p.lo.val * (15 - p.lo.val) / 2 + (p.hi.val - p.lo.val - 1)

/-- The 28 pairs in lexicographic order (R2). -/
def pairTable : List Pair :=
  [⟨0, 1⟩, ⟨0, 2⟩, ⟨0, 3⟩, ⟨0, 4⟩, ⟨0, 5⟩, ⟨0, 6⟩, ⟨0, 7⟩,
   ⟨1, 2⟩, ⟨1, 3⟩, ⟨1, 4⟩, ⟨1, 5⟩, ⟨1, 6⟩, ⟨1, 7⟩,
   ⟨2, 3⟩, ⟨2, 4⟩, ⟨2, 5⟩, ⟨2, 6⟩, ⟨2, 7⟩,
   ⟨3, 4⟩, ⟨3, 5⟩, ⟨3, 6⟩, ⟨3, 7⟩,
   ⟨4, 5⟩, ⟨4, 6⟩, ⟨4, 7⟩,
   ⟨5, 6⟩, ⟨5, 7⟩, ⟨6, 7⟩]

/-- The pair of a symbol index (R2, R3). -/
def pairOf (index : Nat) : Pair := pairTable.getD index ⟨2, 6⟩

/-- The pair of ATTN, index 16 (R3). -/
def attnPair : Pair := ⟨2, 6⟩

/-- The index of ATTN (R3). -/
def attnIndex : Nat := 16

/-- R6: the ordinal of a kind. -/
def Kind.ordinal : Kind → Nat
  | .ring => 0
  | .poll => 1
  | .hold => 2
  | .answer => 3
  | .refuse => 4
  | .clear => 5
  | .brk => 6

/-- R3: the kind a symbol index stands for, index 18 to 24. -/
def kindOfIndex : Nat → Option Kind
  | 18 => some .ring
  | 19 => some .poll
  | 20 => some .hold
  | 21 => some .answer
  | 22 => some .refuse
  | 23 => some .clear
  | 24 => some .brk
  | _ => none

/-- R3: the digit a symbol index stands for, index 0 to 15. -/
def digitOfIndex (n : Nat) : Option Code := if h : n < 16 then some ⟨n, h⟩ else none

/-- R5: the kinds that carry an argument digit. -/
def Kind.hasArgument : Kind → Bool
  | .ring | .refuse => true
  | .poll | .hold | .answer | .clear | .brk => false

/-! ## Arguments -/

/-- R7: the digit of a class. -/
def CallClass.digit : CallClass → Code
  | .ordinary => 0
  | .trunk => 1
  | .urgent => 2

/-- R7: the class a RING from station `x` carries, a class-1 RING from another station than 15 treated as ordinary. -/
def classFrom (x : Code) (digit : Option Code) : CallClass :=
  if digit = some 2 then .urgent else if digit = some 1 ∧ x = 15 then .trunk else .ordinary

/-- R8: the reasons a REFUSE carries. -/
inductive Refuse where
  | busy
  | noCall
  | noAnswer
  | locked
  | glare
  deriving DecidableEq, Repr

/-- R8: the digit of a reason. -/
def Refuse.digit : Refuse → Code
  | .busy => 0
  | .noCall => 1
  | .noAnswer => 2
  | .locked => 3
  | .glare => 4

/-- R8, R131: the reason the request record takes from a REFUSE's digit. -/
def failReasonOf (digit : Option Code) : FailReason :=
  if digit = some 0 then .busy
  else if digit = some 1 then .noCall
  else if digit = some 2 then .noAnswer
  else if digit = some 3 then .locked
  else .glare

/-! ## Words -/

/-- R9: the check digit from the kind's ordinal, the two codes and the argument (0 if absent), mod 16. -/
def checkDigit (k : Kind) (dst src : Code) (arg : Option Code) : Code :=
  Fin.ofNat 16 (k.ordinal + dst.val + src.val + (arg.getD 0).val)

/-- R5: the symbol indices of a word, ATTN first and the check digit last. -/
def LineWord.symbols (w : LineWord) : List Nat :=
  [attnIndex, 18 + w.kind.ordinal, w.dst.val, w.src.val] ++ (w.arg.toList.map (·.val)) ++
    [(checkDigit w.kind w.dst w.src w.arg).val]

/-- R5: the word's span in blocks, 10 for ATTN and its gap and 5 for each later symbol. -/
def LineWord.span (w : LineWord) : Nat := 10 + 5 * (w.symbols.length - 1)

/-- R12: the test of the argument. -/
def argumentValid (k : Kind) (arg : Option Code) : Bool :=
  match k with
  | .ring => decide ((arg.getD 0).val ≤ 2)
  | .refuse => decide ((arg.getD 0).val ≤ 4)
  | .poll | .hold | .answer | .clear | .brk => true

/-- R12: a well-formed word is valid. -/
def wordValid (w : LineWord) (check : Code) : Bool :=
  decide (w.src ≠ 0) && decide (w.src ≠ w.dst) && (decide (w.dst ≠ 0) || decide (w.kind = .brk)) &&
    argumentValid w.kind w.arg && decide (check = checkDigit w.kind w.dst w.src w.arg)

/-! ## The place of a block in the span (R5, R78) -/

/-- The number of the symbol that position `pos` belongs to, ATTN being 0. -/
def symbolAt (pos : Nat) : Nat := if pos < 10 then 0 else (pos - 10) / 5 + 1

/-- How far into its symbol, hold and gap together, position `pos` lies. -/
def offsetAt (pos : Nat) : Nat := if pos < 10 then pos else (pos - 10) % 5

/-- R4: the length of a symbol's hold in blocks. -/
def holdLength (symbol : Nat) : Nat := if symbol = 0 then 8 else 3

/-- The pair that the word holds at its symbol number `n`. -/
def LineWord.pairAt (w : LineWord) (n : Nat) : Pair := pairOf (w.symbols.getD n attnIndex)

end Sys2Proof.Machine
end

