-- ==== Sys2Proof/Machine/Ops.lean ====
section
/-! DEFINITION. The readings that more than one block makes of the state, and the operations that more than one block gives: raising an event, waking from doze, reading and writing the settings page. -/

namespace Sys2Proof.Machine

/-! ## The station -/

/-- R10: the own code, absent in UNSET. -/
def ownCode (s : State) : Option Code := s.settings.map (·.code)

/-- The station is the trunk-end station (R10). -/
def isTrunkEnd (s : State) : Bool := decide (ownCode s = some 15)

/-- R161: the page was valid at the last start. -/
def isActive (s : State) : Bool := s.settings.isSome

/-- The station is ACTIVE and not in setup mode: it queues, rings and takes words (R51, R68, R85). -/
def inService (s : State) : Bool := isActive s && !s.link.setupMode

/-- R22, R158: the sensitivity in force. -/
def sensitivityOf (s : State) : Nat := (s.settings.map (·.sensitivity)).getD 2

/-- R20: lenient overdrive handling is in force. -/
def lenientOf (s : State) : Bool := (s.settings.map (·.lenient)).getD false

/-- R54: the line level L of a transmit level setting. -/
def lineLevelOf (setting : Nat) : Nat := [8, 10, 12, 15].getD setting 15

/-- R54, R158: the line level in force. -/
def lineLevel (s : State) : Nat := lineLevelOf ((s.settings.map (·.level)).getD 2)

/-! ## The view's terms -/

/-- The parties A and B, where present (R87). -/
def ViewRecord.parties : ViewRecord → Option (Code × Code)
  | .free => none
  | .held a b _ => some (a, b)
  | .broken _ _ ab => ab

/-- The view is FREE. -/
def ViewRecord.isFree : ViewRecord → Bool
  | .free => true
  | .held .. | .broken .. => false

/-- R88: the code is a party. -/
def ViewRecord.isParty (r : ViewRecord) (c : Code) : Bool :=
  match r.parties with
  | some (a, b) => decide (c = a ∨ c = b)
  | none => false

/-- R88: the code is involved. -/
def ViewRecord.involves (r : ViewRecord) (c : Code) : Bool :=
  match r with
  | .free => false
  | .held .. => r.isParty c
  | .broken k t _ => r.isParty c || decide (c = k ∨ c = t)

/-- R96: the party other than this one. -/
def ViewRecord.otherParty (r : ViewRecord) (c : Code) : Option Code :=
  match r.parties with
  | some (a, b) => if c = a then some b else if c = b then some a else none
  | none => none

/-- R88: this station is a party of the view. -/
def isParty (s : State) : Bool :=
  match ownCode s with
  | some c => s.view.record.isParty c
  | none => false

/-- R88: this station is involved in the view. -/
def isInvolved (s : State) : Bool :=
  match ownCode s with
  | some c => s.view.record.involves c
  | none => false

/-- R88: the view is held by others. -/
def heldByOthers (s : State) : Bool := !s.view.record.isFree && !isInvolved s

/-- R100: when PRIVACY is asserted. -/
def privacyTerm (s : State) : Bool := s.view.offHook && heldByOthers s

/-- R101: when TRUNK_CONNECT is closed. -/
def trunkConnectTerm (s : State) : Bool :=
  isTrunkEnd s &&
    (match s.view.record with
    | .held .. => isParty s
    | .free | .broken .. => false)

/-! ## Slot and record terms -/

/-- The slot is EMPTY. -/
def slotEmpty (s : State) : Bool := s.answer.slot.isNone

/-- R139, R141: the slot is RINGING or ANSWERED. -/
def slotAnswerable (s : State) : Bool :=
  match s.answer.slot with
  | some c => (match c.phase with
    | .ringing _ | .answered => true
    | .delivered | .expired => false)
  | none => false

/-- The request record is NONE. -/
def recordNone (s : State) : Bool := s.request.record.isNone

/-- The request record is NONE and no break is pending. -/
def requestClear (s : State) : Bool := recordNone s && s.request.pendingBreak.isNone

/-- R149: presence is PRESENT. -/
def trunkPresent (s : State) : Bool := decide (s.trunk.silence < 300)

/-! ## Events and waking -/

/-- Raise an event; its receiver takes it within the same command (log 7). -/
def emit (e : Event) (s : State) : State := { s with inbox := s.inbox ++ [e] }

/-- R167: a wake cause. It also takes back a doze entry that is due (log 21). Awake, it has no effect. -/
def wake (s : State) : State :=
  if s.doze.dozing || decide (s.doze.count = 100) then { s with doze := ⟨false, 0⟩ } else s

/-! ## The settings page -/

/-- A cell as it now reads (R158); a number above 8 is no cell and reads as erased. -/
def Page.get (p : Page) (n : Nat) : Byte :=
  match n with
  | 0 => p.c0
  | 1 => p.c1
  | 2 => p.c2
  | 3 => p.c3
  | 4 => p.c4
  | 5 => p.c5
  | 6 => p.c6
  | 7 => p.c7
  | 8 => p.c8
  | _ => 0xFF

/-- The page with cell `n` holding `v`; a number above 8 is no cell. -/
def Page.set (p : Page) (n : Nat) (v : Byte) : Page :=
  match n with
  | 0 => { p with c0 := v }
  | 1 => { p with c1 := v }
  | 2 => { p with c2 := v }
  | 3 => { p with c3 := v }
  | 4 => { p with c4 := v }
  | 5 => { p with c5 := v }
  | 6 => { p with c6 := v }
  | 7 => { p with c7 := v }
  | 8 => { p with c8 := v }
  | _ => p

/-- R158: a setting from its cell: the range value, the unwritten value, or the value for any other byte. -/
def settingOf (cell : Byte) (low high unwritten : Nat) (other : Nat → Nat) : Nat :=
  if cell = 0xFF then unwritten
  else if low ≤ cell.toNat ∧ cell.toNat ≤ high then cell.toNat
  else other cell.toNat

/-- R158: the clamp of a value to a range. -/
def clampTo (low high v : Nat) : Nat := if v < low then low else if high < v then high else v

/-- R158: the page is valid. -/
def Page.valid (p : Page) : Bool :=
  decide (p.c8 = 0xA5) && decide (1 ≤ p.c0.toNat ∧ p.c0.toNat ≤ 15)

/-- R158: the settings that a page gives; an invalid page gives none. -/
def Page.settings (p : Page) : Option Settings :=
  if p.valid then
    some
      { code := Fin.ofNat 16 p.c0.toNat
        cadence := Fin.ofNat 8 (settingOf p.c1 0 7 0 (fun _ => 7))
        limit := settingOf p.c2 4 15 10 (clampTo 4 15)
        permissions := settingOf p.c3 0 3 0 (fun _ => 0)
        level := settingOf p.c4 0 3 2 (fun _ => 3)
        sensitivity := settingOf p.c5 0 7 2 (fun _ => 7)
        lenient := decide (settingOf p.c6 0 1 0 (fun _ => 0) = 1)
        revert := settingOf p.c7 2 12 6 (clampTo 2 12) }
  else none

/-- The store is busy (R159, R160). -/
def storeBusy (s : State) : Bool :=
  match s.store.op with
  | .idle => false
  | .erasing _ | .writing .. => true

end Sys2Proof.Machine
end

