-- ==== Sys2Proof/Machine/Scripts.lean ====
section
/-! DEFINITION. The Tone Engine's fixed tables of chapter 4: the sine table, the pitches and the cadence ROM. -/

namespace Sys2Proof.Machine

/-- The first quarter of the sine table, entries 0 to 64: 2047 × sin(2πi/256), rounded (R53). -/
def sineQuarter : List Nat :=
  [0, 50, 100, 151, 201, 251, 300, 350, 399, 449, 497, 546, 594, 642, 690, 737, 783, 830, 875, 920,
   965, 1009, 1052, 1095, 1137, 1179, 1219, 1259, 1299, 1337, 1375, 1411, 1447, 1483, 1517, 1550] ++
  [1582, 1614, 1644, 1674, 1702, 1729, 1756, 1781, 1805, 1828, 1850, 1871, 1891, 1910, 1927, 1944,
   1959, 1973, 1986, 1997, 2008, 2017, 2025, 2032, 2037, 2041, 2045, 2046, 2047]

/-- R53: entry `i` of the 256-entry sine table; the other three quarters follow from the first by the sine's symmetries. -/
def sineEntry (i : Nat) : Int :=
  let k := i % 256
  if k ≤ 64 then (sineQuarter.getD k 0 : Int)
  else if k ≤ 128 then (sineQuarter.getD (128 - k) 0 : Int)
  else if k ≤ 192 then -(sineQuarter.getD (k - 128) 0 : Int)
  else -(sineQuarter.getD (256 - k) 0 : Int)

/-- The pitches of R55, with their phase steps. -/
inductive Pitch where
  | p440
  | p480
  | p620
  | p950
  | p1400
  | p1800
  | bell20
  deriving DecidableEq, Repr

/-- R55: the phase step of a pitch. -/
def Pitch.step : Pitch → Nat
  | .p440 => 3604
  | .p480 => 3932
  | .p620 => 5079
  | .p950 => 7782
  | .p1400 => 11469
  | .p1800 => 14746
  | .bell20 => 164

/-- A step of a script (R58 to R60); durations are in ticks. -/
inductive ScriptStep where
  | sound (pitch : Pitch) (ticks : Nat)
  | quiet (ticks : Nat)
  | mark
  | again (n : Nat)
  | finish
  deriving DecidableEq, Repr

/-- A SOUND step of a ringer script (R69). -/
def bell (ticks : Nat) : ScriptStep := .sound .bell20 ticks

/-- The steps of RING-0 to RING-7 (R69). -/
def ringSteps (n : Fin 8) : List ScriptStep :=
  match n with
  | 0 => [bell 100, .quiet 200, .mark, .again 0]
  | 1 => [bell 40, .quiet 20, bell 40, .quiet 200, .mark, .again 0]
  | 2 => [bell 80, .quiet 40, bell 20, .quiet 200, .mark, .again 0]
  | 3 => [bell 20, .quiet 20, bell 20, .quiet 20, bell 20, .quiet 200, .mark, .again 0]
  | 4 => [bell 150, .quiet 150, .mark, .again 0]
  | 5 => [bell 30, .quiet 30, bell 100, .quiet 180, .mark, .again 0]
  | 6 => [bell 60, .quiet 20, bell 60, .quiet 20, bell 60, .quiet 180, .mark, .again 0]
  | 7 => [bell 20, .quiet 20, bell 80, .quiet 180, .mark, .again 0]

/-- The cadence ROM (R69, R70). -/
def Script.steps : Script → List ScriptStep
  | .ring n => ringSteps n
  | .trunk => [bell 100, .quiet 50, bell 100, .quiet 250, .mark, .again 0]
  | .urgent =>
    [bell 20, .quiet 10, bell 20, .quiet 10, bell 20, .quiet 10, bell 20, .quiet 90, .mark, .again 0]
  | .alert => [bell 200, .quiet 50, .mark, .again 5, .finish]
  | .revert => [bell 25, .quiet 25, bell 25, .quiet 200, .mark, .again 0]
  | .instruct => [.sound .p950 10, .sound .p1400 10, .quiet 80, .mark, .again 0]
  | .ringback => [.sound .p440 100, .quiet 200, .mark, .again 0]
  | .busy => [.sound .p480 50, .quiet 50, .mark, .again 0]
  | .error =>
    [.sound .p950 33, .sound .p1400 33, .sound .p1800 33, .quiet 100, .mark, .again 3, .finish]
  | .cleared => [.sound .p620 50, .quiet 50, .mark, .again 2, .finish]
  | .lockout => [.sound .p480 25, .quiet 25, .mark, .again 4, .finish]
  | .answerWait => [.sound .p620 10, .quiet 90, .mark, .again 0]
  | .callerGone => [.sound .p1400 20, .sound .p950 20, .quiet 60, .mark, .again 3, .finish]
  | .breakWarn => [.sound .p1800 15, .quiet 15, .mark, .again 10, .finish]
  | .urgentCall => [.sound .p1800 10, .sound .p950 10, .quiet 30, .mark, .again 0]

/-- The rank of a script, 1..4 (R69, R70). -/
def Script.rank : Script → Nat
  | .ring _ | .trunk | .instruct => 1
  | .revert | .ringback | .busy | .error | .cleared => 2
  | .urgent | .alert | .lockout | .answerWait | .callerGone => 3
  | .breakWarn | .urgentCall => 4

/-- The voice a script runs on: ringer scripts on voice 3, earpiece scripts on voice 2 (R69, R70). -/
def Script.voice : Script → ScriptVoice
  | .ring _ | .trunk | .urgent | .alert | .revert => .ringer
  | .instruct | .ringback | .busy | .error | .cleared | .lockout | .answerWait | .callerGone
  | .breakWarn | .urgentCall => .earpiece

end Sys2Proof.Machine
end

