-- ==== Sys2Proof/Machine/Engine.lean ====
section
/-! DEFINITION. The Tone Engine's commands of chapter 4: the line voices (R56), START, STOP-NOW and STOP-AT-CYCLE (R61 to R65), the hook (R62, R64), and what the voices yield at a sample (R53 to R55). -/

namespace Sys2Proof.Machine

/-! ## The line voices -/

/-- R56: a line voice at the start of a hold. -/
def heldVoice (t : Tone) (level : Nat) : LineVoice := ⟨true, 0, tonePhaseStep t, level⟩

/-- R56: HOLD(i, j); ignored in setup mode and in UNSET (R68). -/
def lineHold (p : Pair) (s : State) : State :=
  if inService s then
    { s with
      engine.v0 := heldVoice p.lo (lineLevel s)
      engine.v1 := heldVoice p.hi (lineLevel s) }
  else s

/-- R56: both play flags cleared. -/
def silenceLine (s : State) : State :=
  { s with engine.v0.play := false, engine.v1.play := false }

/-- R56: GAP; ignored in setup mode and in UNSET (R68). -/
def lineGap (s : State) : State := if inService s then silenceLine s else s

/-- R56: STOP-NOW for the line voices; ignored in setup mode and in UNSET (R68). -/
def lineStop (s : State) : State := if inService s then silenceLine s else s

/-! ## Voices 2 and 3 -/

/-- Voice 2 or 3. -/
def Engine.voice (e : Engine) : ScriptVoice → CadenceVoice
  | .earpiece => e.ear
  | .ringer => e.bell

/-- The engine with voice 2 or 3 replaced. -/
def Engine.setVoice (e : Engine) (v : ScriptVoice) (c : CadenceVoice) : Engine :=
  match v with
  | .earpiece => { e with ear := c }
  | .ringer => { e with bell := c }

/-- The state with voice 2 or 3 replaced. -/
def setVoice (v : ScriptVoice) (c : CadenceVoice) (s : State) : State :=
  { s with engine := s.engine.setVoice v c }

/-- R60: a voice become idle: play flag, script, starter, play count and stop pending cleared. The other fields keep their values (log 26). -/
def CadenceVoice.idled (c : CadenceVoice) : CadenceVoice :=
  { c with
    play := false, script := none, starter := none, plays := 0, stopPending := false,
    begun := false }

/-- R61: a voice loaded with a script. Voice 2 takes level 10 (R55). -/
def CadenceVoice.loaded (c : CadenceVoice) (sc : Script) (a : Agent) : CadenceVoice :=
  { c with
    play := true, script := some sc, index := 0, remaining := 0, plays := 1,
    stopPending := false, starter := some a, begun := false,
    level := if sc.voice = .earpiece then 10 else c.level }

/-- R62, R68: the STARTs refused whatever the rank. -/
def startBarred (sc : Script) (s : State) : Bool :=
  match sc.voice with
  | .earpiece => !s.engine.offHook
  | .ringer => isTrunkEnd s || !inService s

/-- R61: the rank test against the script running, if any. -/
def outranked (sc : Script) (c : CadenceVoice) : Bool :=
  match c.script with
  | none => false
  | some old => decide (sc.rank < old.rank)

/-- R61: the lost event of a replaced script, for another block's. -/
def noteReplaced (a : Agent) (c : CadenceVoice) (s : State) : State :=
  match c.script, c.starter with
  | some old, some b => if b = a then s else emit (.lost b old) s
  | _, _ => s

/-- R61, R62: START(script) by block `a`. -/
def start (a : Agent) (sc : Script) (s : State) : State :=
  let c := s.engine.voice sc.voice
  if startBarred sc s || outranked sc c then emit (.lost a sc) s
  else noteReplaced a c (setVoice sc.voice (c.loaded sc a) s)

/-- R67: ringer free, when the voice that became idle is voice 3. -/
def noteIdle (v : ScriptVoice) (s : State) : State :=
  match v with
  | .ringer => emit .ringerFree s
  | .earpiece => s

/-- Block `a` started the script running on the voice. -/
def startedBy (a : Agent) (c : CadenceVoice) : Bool :=
  c.script.isSome && decide (c.starter = some a)

/-- R63, R67: STOP-NOW by block `a`. -/
def stopNow (a : Agent) (v : ScriptVoice) (s : State) : State :=
  let c := s.engine.voice v
  if startedBy a c then noteIdle v (setVoice v c.idled s) else s

/-- R65: STOP-AT-CYCLE by block `a`. -/
def stopAtCycle (a : Agent) (v : ScriptVoice) (s : State) : State :=
  let c := s.engine.voice v
  if startedBy a c then setVoice v { c with stopPending := true } s else s

/-- R62: the engine hears that the handset is off-hook. -/
def engineOffHook (s : State) : State := { s with engine.offHook := true }

/-- R62, R64: the engine hears HANG-UP: the handset is on-hook and a busy voice 2 stops, its starter losing it. -/
def engineHangUp (s : State) : State :=
  let t := { s with engine.offHook := false }
  match t.engine.ear.script, t.engine.ear.starter with
  | some sc, some a => emit (.lost a sc) (setVoice .earpiece t.engine.ear.idled t)
  | some _, none => setVoice .earpiece t.engine.ear.idled t
  | none, _ => t

/-- R60, R67: the end of a script: the voice becomes idle, the former starter receives finish, and for voice 3 the Answer Unit receives ringer free. -/
def endScript (v : ScriptVoice) (s : State) : State :=
  let c := s.engine.voice v
  let t := setVoice v c.idled s
  let u := match c.script, c.starter with
    | some sc, some a => emit (.finish a sc) t
    | _, _ => t
  noteIdle v u

/-- R68: the engine at the entry to setup mode: all voices stop, with no event. -/
def engineOffline (e : Engine) : Engine :=
  { e with
    v0.play := false, v1.play := false, ear := e.ear.idled, bell := e.bell.idled }

/-! ## What the voices yield -/

/-- R54, R55: a quotient rounded to the nearest integer, halves away from zero. -/
def roundHalfAway (n : Int) (d : Nat) : Int :=
  if 0 ≤ n then (2 * n + d) / (2 * d) else -((2 * (-n) + d) / (2 * d))

/-- The step a voice is in, when its script has begun. -/
def CadenceVoice.currentStep (c : CadenceVoice) : Option ScriptStep :=
  match c.script with
  | none => none
  | some sc => if c.begun then sc.steps[c.index]? else none

/-- R53: a voice 2 or 3 sounds while its current step is a SOUND step. -/
def CadenceVoice.sounding (c : CadenceVoice) : Bool :=
  match c.currentStep with
  | some (.sound _ _) => c.play
  | some (.quiet _) | some .mark | some (.again _) | some .finish | none => false

/-- R53: the sine table entry at a phase, the upper eight of its sixteen bits. -/
def sineAt (phase : Nat) : Int := sineEntry (phase / 256)

/-- R53: the phase moved on by the phase step. -/
def advancePhase (phase step : Nat) : Nat := (phase + step) % 65536

/-- R53: what a line voice yields at a sample. -/
def LineVoice.yield (v : LineVoice) : Int := if v.play then sineAt v.phase else 0

/-- R53: a line voice after a sample. -/
def LineVoice.advanced (v : LineVoice) : LineVoice :=
  if v.play then { v with phase := advancePhase v.phase v.step } else v

/-- R53: what voice 2 yields at a sample. -/
def CadenceVoice.yield (c : CadenceVoice) : Int := if c.sounding then sineAt c.phase else 0

/-- R53: voice 2 or 3 after a sample. -/
def CadenceVoice.advanced (c : CadenceVoice) : CadenceVoice :=
  if c.sounding then { c with phase := advancePhase c.phase c.step } else c

/-- R54: the line output sample: the yields at the level their HOLD loaded, divided by 32. -/
def lineSampleOut (e : Engine) : Int :=
  roundHalfAway (e.v0.yield * e.v0.level + e.v1.yield * e.v1.level) 32

/-- R55: the earpiece output sample: the yield of voice 2 at its level, 10 for every script, divided by 16. -/
def earpieceOut (e : Engine) : Int := roundHalfAway (e.ear.yield * e.ear.level) 16

/-- R55: RINGER is on while voice 3 sounds and its phase is below a half-turn. -/
def ringerOut (e : Engine) : Bool := e.bell.sounding && decide (e.bell.phase < 32768)

/-- R53 to R55: one sample clock: the outputs are produced and the phases move on. -/
def produceOutputs (s : State) : State :=
  let e := s.engine
  { s with
    out.lineOut := lineSampleOut e
    out.earpiece := earpieceOut e
    out.ringer := ringerOut e
    engine.v0 := e.v0.advanced
    engine.v1 := e.v1.advanced
    engine.ear := e.ear.advanced
    engine.bell := e.bell.advanced }

end Sys2Proof.Machine
end

