-- ==== Sys2Proof/Machine/Flags.lean ====
section
/-! DEFINITION. The condition set (R163): setting a flag and the condition byte. -/

namespace Sys2Proof.Machine

/-- The value of one bit of a byte. -/
def bitValue (b : Bool) (place : Nat) : Nat := if b then 2 ^ place else 0

/-- R163: the condition byte; bit 7 reads 0. -/
def Conditions.byte (c : Conditions) : Byte :=
  BitVec.ofNat 8 (bitValue c.overdrive 0 + bitValue c.brokenWord 1 + bitValue c.clash 2 +
    bitValue c.sendAbandoned 3 + bitValue c.laneFull 4 + bitValue c.stuckTone 5 +
    bitValue c.badTrunkCode 6)

/-- Set BROKEN-WORD (R35). -/
def setBrokenWord (s : State) : State := { s with conds.brokenWord := true }

/-- Set STUCK-TONE (R42). -/
def setStuckTone (s : State) : State := { s with conds.stuckTone := true }

/-- Set CLASH (R50). -/
def setClash (s : State) : State := { s with conds.clash := true }

/-- Set SEND-ABANDONED (R81). -/
def setSendAbandoned (s : State) : State := { s with conds.sendAbandoned := true }

/-- Set LANE-FULL (R72). -/
def setLaneFull (s : State) : State := { s with conds.laneFull := true }

/-- Set BAD-TRUNK-CODE (R150). -/
def setBadTrunkCode (s : State) : State := { s with conds.badTrunkCode := true }

/-- R19: set OVERDRIVE when the clip count is 4 or more. -/
def noteOverdrive (s : State) : State :=
  if 4 ≤ s.det.clips then { s with conds.overdrive := true } else s

end Sys2Proof.Machine
end

