-- ==== Sys2Proof/Machine/Transmit.lean ====
section
/-! DEFINITION. The Word Transmitter of chapter 5: QUEUE (R72, R73), WITHDRAW (R74), waiting (R75 to R77), sending (R78 to R80), spoiling and back-off (R81), notices (R82). -/

namespace Sys2Proof.Machine

/-! ## Lanes -/

/-- R71, R72: the lane of a kind. -/
def Kind.lane : Kind → Lane
  | .ring | .poll => .request
  | .hold | .answer | .refuse | .clear | .brk => .prompt

/-- R71: the most entries a lane holds. -/
def Lane.capacity : Lane → Nat
  | .prompt => 4
  | .request => 2

/-- The entries of a lane, head first. -/
def Transmitter.entries (t : Transmitter) : Lane → List Entry
  | .prompt => t.prompt
  | .request => t.request

/-- The transmitter with one lane's entries replaced. -/
def Transmitter.setEntries (t : Transmitter) (l : Lane) (es : List Entry) : Transmitter :=
  match l with
  | .prompt => { t with prompt := es }
  | .request => { t with request := es }

/-- The state with one lane's entries replaced. -/
def setEntries (l : Lane) (es : List Entry) (s : State) : State :=
  { s with tx := s.tx.setEntries l es }

/-- R71: an attempt is sending the head of this lane. -/
def Transmitter.inFlight (t : Transmitter) (l : Lane) : Bool :=
  match t.attempt with
  | some a => decide (a.lane = l)
  | none => false

/-- The in-flight entry of a lane, as a list of at most one. -/
def Transmitter.flying (t : Transmitter) (l : Lane) : List Entry :=
  if t.inFlight l then (t.entries l).take 1 else []

/-- The queued entries of a lane (R71). -/
def Transmitter.queued (t : Transmitter) (l : Lane) : List Entry :=
  if t.inFlight l then (t.entries l).drop 1 else t.entries l

/-- R77: the new head of a lane has wait count 0. -/
def promote : List Entry → List Entry
  | [] => []
  | e :: es => { e with wait := 0 } :: es

/-- The entries of a list that are kept; a new head has wait count 0 (R77). -/
def keepEntries (keep : Entry → Bool) : List Entry → List Entry
  | [] => []
  | e :: es => if keep e then e :: es.filter keep else promote (es.filter keep)

/-- R72: the first queued entry with the word's to-code, and the list with the word and its owner in that entry's place. -/
def supersede (w : LineWord) (o : Agent) : List Entry → Option (Entry × List Entry)
  | [] => none
  | e :: es =>
    if e.word.dst = w.dst then some (e, { e with word := w, owner := o } :: es)
    else (supersede w o es).map (fun r => (r.1, e :: r.2))

/-- R72: a word that joins the tail. -/
def freshEntry (w : LineWord) (o : Agent) : Entry := ⟨w, o, 0, 0, false⟩

/-! ## QUEUE and WITHDRAW -/

/-- R72, R73: the DISPLACED notice, for the owner of a removed entry when it is another block than the new word's. -/
def noteDisplaced (newOwner : Agent) (e : Entry) (s : State) : State :=
  if e.owner = newOwner then s else emit (.abandoned e.owner e.word .displaced) s

/-- R73: the request-lane entries that a CLEAR removes. -/
def clearedBy (dst : Code) (e : Entry) : Bool := decide (e.word.dst = dst)

/-- R73: a placed CLEAR removes the queued RING and POLL words to the same station. -/
def removeRequests (o : Agent) (dst : Code) (s : State) : State :=
  let q := s.tx.queued .request
  let kept := s.tx.flying .request ++ keepEntries (fun e => !clearedBy dst e) q
  (q.filter (clearedBy dst)).foldl (fun t e => noteDisplaced o e t) (setEntries .request kept s)

/-- R73: what follows the placing of a word. -/
def afterPlacing (o : Agent) (w : LineWord) (s : State) : State :=
  if w.kind = .clear then removeRequests o w.dst s else s

/-- R72: a word placed against the lanes as they stand. -/
def place (o : Agent) (w : LineWord) (s : State) : State :=
  let l := w.kind.lane
  match supersede w o (s.tx.queued l) with
  | some (old, es) =>
    afterPlacing o w (noteDisplaced o old (setEntries l (s.tx.flying l ++ es) s))
  | none =>
    if (s.tx.entries l).length < l.capacity then
      afterPlacing o w (setEntries l (s.tx.entries l ++ [freshEntry w o]) s)
    else emit (.abandoned o w .full) (setLaneFull s)

/-- R72: QUEUE by owner `o` of a word of this kind to `dst`, from this station. Refused in setup mode and in UNSET (R85). -/
def queue (o : Agent) (k : Kind) (dst : Code) (arg : Option Code) (s : State) : State :=
  match ownCode s with
  | none => s
  | some own => if s.link.setupMode then s else place o ⟨k, dst, own, arg⟩ s

/-- R8, R72: QUEUE of a REFUSE with its reason. -/
def queueRefuse (o : Agent) (r : Refuse) (dst : Code) (s : State) : State :=
  queue o .refuse dst (some r.digit) s

/-- R7, R72: QUEUE of a RING with its class. -/
def queueRing (o : Agent) (cls : CallClass) (dst : Code) (s : State) : State :=
  queue o .ring dst (some cls.digit) s

/-- R74: the entries that WITHDRAW removes. -/
def withdrawn (o : Agent) (dst : Code) (e : Entry) : Bool :=
  decide (e.owner = o) && decide (e.word.dst = dst)

/-- R74: a lane after WITHDRAW; the entry in flight stays. -/
def withdrawLane (o : Agent) (dst : Code) (l : Lane) (s : State) : State :=
  setEntries l
    (s.tx.flying l ++ keepEntries (fun e => !withdrawn o dst e) (s.tx.queued l)) s

/-- R74: WITHDRAW(X) by an owner. No notice is sent. -/
def withdraw (o : Agent) (dst : Code) (s : State) : State :=
  withdrawLane o dst .request (withdrawLane o dst .prompt s)

/-! ## Waiting -/

/-- R76: at least one entry stands in the lanes. -/
def Transmitter.hasEntry (t : Transmitter) : Bool := !t.prompt.isEmpty || !t.request.isEmpty

/-- The head of the lane carries the retry mark. -/
def headMarked : List Entry → Bool
  | [] => false
  | e :: _ => e.retry

/-- R76: the lane whose head is the candidate. -/
def Transmitter.candidate (t : Transmitter) : Option Lane :=
  if headMarked t.prompt then some .prompt
  else if headMarked t.request then some .request
  else if !t.prompt.isEmpty then some .prompt
  else if !t.request.isEmpty then some .request
  else none

/-- R75: the quiet count after a decision outside an attempt. The decision that ends an attempt by stopping, that of the block in which the entry to setup mode stopped it, holds the count at 0 (DEDUCED, log 41). -/
def movedQuiet (stopped : Bool) (quiet : Nat) (d : Decision) : Nat :=
  if d = .silent ∧ stopped = false then min 3 (quiet + 1) else 0

/-- R77: the head's wait count rises by 1, up to the lane's limit. -/
def raiseHead (limit : Nat) : List Entry → List Entry
  | [] => []
  | e :: es => { e with wait := min limit (e.wait + 1) } :: es

/-- R76, R77: a decision taken while waiting. A start is left due for CHECKED_ATTEMPT_START at this boundary (log 2). -/
def applyWaiting (s : State) : State :=
  if s.tx.hasEntry then
    if s.tx.quiet = 3 then { s with tx.startDue := true }
    else
      { s with
        tx.prompt := raiseHead 100 s.tx.prompt
        tx.request := raiseHead 250 s.tx.request }
  else s

/-- R75, R76, R81: a decision outside an attempt. A back-off that ends is left due for BACK_OFF_END at this boundary (log 2). -/
def txIdleDecide (d : Decision) (s : State) : State :=
  let t := { s with tx.quiet := movedQuiet s.tx.cutBlock s.tx.quiet d }
  if s.tx.backOff = 0 then applyWaiting t
  else
    { t with
      tx.backOff := s.tx.backOff - 1
      tx.backOffDue := decide (s.tx.backOff = 1) }

/-! ## Sending -/

/-- R78: the head of a lane as its attempt starts. -/
def startHead : List Entry → List Entry
  | [] => []
  | e :: es => { e with attempts := e.attempts + 1, retry := false } :: es

/-- R78: an attempt of the lane's head starts at this boundary with ATTN's hold. -/
def startAttempt (l : Lane) (checked : Bool) (s : State) : State :=
  let t := setEntries l (startHead (s.tx.entries l)) s
  lineHold attnPair
    { t with
      tx.attempt := some ⟨l, 0, checked⟩
      tx.quiet := 0
      tx.startDue := false }

/-- R76: the start that a decision left due. -/
def takeStart (s : State) : State :=
  match s.tx.candidate with
  | some l => startAttempt l true s
  | none => { s with tx.startDue := false }

/-- R80: the block at a position of the span passes the echo check. -/
def echoPasses (w : LineWord) (pos : Nat) (d : Decision) : Bool :=
  let n := symbolAt pos
  if offsetAt pos = 0 then true
  else if offsetAt pos < holdLength n then decide (d = .pair (w.pairAt n))
  else
    match d with
    | .pair _ | .overlap => false
    | .silent | .noise | .unusable => true

/-- R78: the command to the line voices at the boundary where position `pos` begins. -/
def boundaryCommand (w : LineWord) (pos : Nat) (s : State) : State :=
  if offsetAt pos = 0 then lineHold (w.pairAt (symbolAt pos)) s
  else if offsetAt pos = holdLength (symbolAt pos) then lineGap s
  else s

/-- The first entry of a list with this to-code, and the list without it. -/
def takeOut (dst : Code) : List Entry → Option (Entry × List Entry)
  | [] => none
  | e :: es =>
    if e.word.dst = dst then some (e, es)
    else (takeOut dst es).map (fun r => (r.1, e :: r.2))

/-- R81: the spoiled entry keeps its place for a retry; a newer queued word to the same station takes it over. -/
def markForRetry (l : Lane) (e : Entry) (rest : List Entry) (s : State) : State :=
  let marked := { e with wait := 0, retry := true }
  let t := match takeOut e.word.dst rest with
    | some (newer, others) =>
      noteDisplaced newer.owner e
        (setEntries l ({ marked with word := newer.word, owner := newer.owner } :: others) s)
    | none => setEntries l (marked :: rest) s
  { t with tx.backOff := (4 + ((ownCode s).getD 0).val) * e.attempts }

/-- R81: the fifth spoil abandons the word. -/
def giveUp (l : Lane) (e : Entry) (rest : List Entry) (s : State) : State :=
  emit (.abandoned e.owner e.word .spoiled)
    (setSendAbandoned (setEntries l (promote rest) { s with tx.backOff := 0 }))

/-- R81: the attempt is spoiled. -/
def spoil (l : Lane) (e : Entry) (rest : List Entry) (s : State) : State :=
  let t := lineStop { s with tx.attempt := none }
  if e.attempts < 5 then markForRetry l e rest t else giveUp l e rest t

/-- R82: the attempt completes: the entry leaves its lane and its owner receives word sent. -/
def completeAttempt (l : Lane) (e : Entry) (rest : List Entry) (s : State) : State :=
  emit (.sent e.owner e.word) (setEntries l (promote rest) { s with tx.attempt := none })

/-- R78 to R82: a decision taken during an attempt. -/
def txAttemptDecide (a : Attempt) (d : Decision) (s : State) : State :=
  let t := { s with tx.quiet := 0 }
  match s.tx.entries a.lane with
  | [] => { t with tx.attempt := none }
  | e :: rest =>
    if a.checked && !echoPasses e.word a.pos d then spoil a.lane e rest t
    else if a.pos + 1 < e.word.span then
      boundaryCommand e.word (a.pos + 1) { t with tx.attempt := some { a with pos := a.pos + 1 } }
    else completeAttempt a.lane e rest t

/-- R75 to R82: the transmitter takes a decision. -/
def txDecide (d : Decision) (s : State) : State :=
  match s.tx.attempt with
  | some a => txAttemptDecide a d s
  | none => txIdleDecide d s

/-! ## The transmitter's own steps -/

/-- R76: CHECKED_ATTEMPT_START is due. -/
def checkedStartDue (s : State) : Bool := s.tx.startDue && s.tx.attempt.isNone

/-- R81: BACK_OFF_END: R76 is applied at the decision at which the back-off reached 0. -/
def takeBackOffEnd (s : State) : State :=
  applyWaiting { s with tx.backOffDue := false }

/-- R77: the wait count of a lane's head has reached this limit. -/
def headWaited (limit : Nat) : List Entry → Bool
  | [] => false
  | e :: _ => decide (limit ≤ e.wait)

/-- R77: TALK_OVER is due. -/
def talkOverDue (s : State) : Bool := s.tx.attempt.isNone && headWaited 100 s.tx.prompt

/-- R77: REQUEST_WAIT_LIMIT is due. -/
def requestWaitDue (s : State) : Bool := !s.tx.inFlight .request && headWaited 250 s.tx.request

/-- R77: the request-lane head is removed, its owner told NOISY. -/
def takeRequestWaitLimit (s : State) : State :=
  match s.tx.request with
  | [] => s
  | e :: es => emit (.abandoned e.owner e.word .noisy) { s with tx.request := promote es }

/-- R84: the transmitter at the entry to setup mode; a stopped attempt's block still lies within the transmission (R47). -/
def Transmitter.offline (t : Transmitter) : Transmitter :=
  { Transmitter.reset with cutBlock := t.attempt.isSome || t.cutBlock }

end Sys2Proof.Machine
end

