-- ==== Sys2Proof/Machine/LineView.lean ====
section
/-! DEFINITION. The Line View of chapter 6: the view record, the ring memory, the answers, clears and breaks it hears, line idle, its own CLEAR, PRIVACY and TRUNK_CONNECT. -/

namespace Sys2Proof.Machine

/-! ## The record and its outputs -/

/-- R100: LOCKOUT is playing on voice 2. -/
def lockoutPlaying (s : State) : Bool := decide (s.engine.ear.script = some .lockout)

/-- R100: what a change of PRIVACY from `was` to `now` starts or stops. -/
def privacyTone (was now : Bool) (s : State) : State :=
  if now && !was then start .lineView .lockout s
  else if was && !now && lockoutPlaying s then stopNow .lineView .earpiece s
  else s

/-- R100: PRIVACY follows its term. -/
def refreshPrivacy (s : State) : State :=
  privacyTone s.out.privacy (privacyTerm s) { s with out.privacy := privacyTerm s }

/-- R101: TRUNK_CONNECT follows its term. -/
def refreshTrunkConnect (s : State) : State := { s with out.trunkConnect := trunkConnectTerm s }

/-- R100, R101: both outputs follow the view at once. -/
def refreshOutputs (s : State) : State := refreshTrunkConnect (refreshPrivacy s)

/-- R99: held by others, with the parties as they now stand, is sent to the Answer Unit and the Request Unit when the view passes to it. -/
def noteHeld (before : Bool) (s : State) : State :=
  if heldByOthers s && !before then
    let ab := s.view.record.parties
    emit (.heldByOthers .requestUnit ab) (emit (.heldByOthers .answerUnit ab) s)
  else s

/-- R88, R99 to R101: the view record replaced, with all that follows at once. -/
def setView (r : ViewRecord) (s : State) : State :=
  refreshOutputs (noteHeld (heldByOthers s) { s with view.record := r })

/-- R92: the view becomes FREE. -/
def freeView (s : State) : State := setView .free s

/-! ## The ring memory -/

/-- R89: a RING remembered; an entry already held for its caller is replaced. -/
def rememberRing (w : LineWord) (s : State) : State :=
  { s with
    view.rings := ⟨w.src, w.dst, classFrom w.src w.arg⟩ ::
      s.view.rings.filter (fun e => decide (e.caller ≠ w.src)) }

/-- R89: the entry's two codes are the word's two codes, in either direction. -/
def RingEntry.between (e : RingEntry) (p q : Code) : Bool :=
  decide (e.caller = p ∧ e.called = q) || decide (e.caller = q ∧ e.called = p)

/-- R89: an ANSWER, REFUSE or CLEAR removes the ring it answers or ends. -/
def forgetRing (w : LineWord) (s : State) : State :=
  { s with view.rings := s.view.rings.filter (fun e => !e.between w.src w.dst) }

/-- R90: the class found in the ring memory for caller `x` and called `y`. -/
def classFound (rings : List RingEntry) (x y : Code) : CallClass :=
  match rings.find? (fun e => decide (e.caller = x ∧ e.called = y)) with
  | some e => e.cls
  | none => .ordinary

/-! ## The view's own CLEAR -/

/-- R98: the call named by the pending clear is the view's call. -/
def PendingClear.names (p : PendingClear) (r : ViewRecord) : Bool :=
  decide (r.parties = some (p.a, p.b))

/-- R98: a CLEAR to this code was heard, sent or abandoned. -/
def settlePending (dst : Code) (s : State) : State :=
  match s.view.pendingClear with
  | none => s
  | some p =>
    if p.dst = dst then
      let t := { s with view.pendingClear := none }
      if p.names s.view.record then freeView t else t
    else s

/-- R96, R97: CLEAR queued to the other party and the pending clear set, when this station is a party. -/
def viewOwnClear (s : State) : State :=
  match ownCode s, s.view.record.parties with
  | some own, some (a, b) =>
    match s.view.record.otherParty own with
    | some other =>
      let t := queue .lineView .clear other none s
      { t with view.pendingClear := some ⟨other, a, b⟩ }
    | none => s
  | _, _ => s

/-- R96: the view has queued, or would queue, a CLEAR to this code at the HANG-UP, and it is pending (R120). -/
def viewClears (x : Code) (s : State) : Bool :=
  match ownCode s with
  | some own => decide (s.view.record.otherParty own = some x)
  | none => false

/-- R97: RELEASE from the Answer Unit. -/
def viewRelease (s : State) : State := viewOwnClear s

/-- R98: the view takes a word-sent or a word-abandoned notice. -/
def viewNotice (w : LineWord) (s : State) : State :=
  if w.kind = .clear then settlePending w.dst s else s

/-! ## Words -/

/-- R90, R91: an ANSWER taken into a new record, with the idle count at 0. -/
def takeAnswer (x y : Code) (cls : CallClass) (s : State) : State :=
  setView (.held x y cls) { s with view.idle := 0 }

/-- The own code is one of the two. -/
def ownAmong (x y : Code) (s : State) : Bool :=
  decide (ownCode s = some x) || decide (ownCode s = some y)

/-- R90, R91: ANSWER from `y` to `x`. -/
def viewAnswer (x y : Code) (s : State) : State :=
  let found := classFound s.view.rings x y
  match s.view.record with
  | .free => takeAnswer x y found s
  | .held a b _ =>
    if a = x ∧ b = y then s
    else if isParty s && !ownAmong x y s then s
    else takeAnswer x y found s
  | .broken k t ab =>
    if y = t ∧ x = k then takeAnswer x y .urgent s
    else if ab = some (x, y) then s
    else if isInvolved s && !ownAmong x y s then s
    else takeAnswer x y found s

/-- R92: the CLEAR from `p` to `q` frees this record. -/
def clearFrees (r : ViewRecord) (p q : Code) : Bool :=
  let between := decide (r.parties = some (p, q)) || decide (r.parties = some (q, p))
  match r with
  | .free => false
  | .held .. => between
  | .broken k t _ => decide (p = k ∨ p = t) || between

/-- R92, R98: CLEAR from `p` to `q`. -/
def viewClear (p q : Code) (own : Bool) (s : State) : State :=
  let t := if clearFrees s.view.record p q then freeView s else s
  if own then settlePending q t else t

/-- R93: URGENT-CALL of another block is playing on voice 2. -/
def urgentCallPlaying (s : State) : Bool :=
  decide (s.engine.ear.script = some .urgentCall) &&
    decide (s.engine.ear.starter ≠ some .lineView)

/-- R93: this station is warned of a BREAK from `k` to `t` that leaves these parties. -/
def warned (k t : Code) (ab : Option (Code × Code)) (s : State) : Bool :=
  match ownCode s with
  | none => false
  | some own =>
    decide (own ≠ k) &&
      (decide (own = t) ||
        (match ab with
        | some (a, b) => decide (own = a ∨ own = b)
        | none => false))

/-- R93: BREAK from `k` to `t`, a station. -/
def viewBreak (k t : Code) (s : State) : State :=
  let ab := s.view.record.parties
  let base := if s.view.record.isFree then { s with view.idle := 0 } else s
  let u := setView (.broken k t ab) base
  if warned k t ab s && !urgentCallPlaying u then start .lineView .breakWarn u else u

/-- R94: BREAK to code 0. -/
def viewAlert (own : Bool) (s : State) : State :=
  if own then s else start .lineView .alert s

/-- R87 to R94: the view takes a delivered word, its own mark known. -/
def viewWord (own : Bool) (w : LineWord) (s : State) : State :=
  match w.kind with
  | .ring => rememberRing w s
  | .answer => forgetRing w (viewAnswer w.dst w.src s)
  | .refuse => forgetRing w s
  | .clear => forgetRing w (viewClear w.src w.dst own s)
  | .brk => if w.dst = 0 then viewAlert own s else viewBreak w.src w.dst s
  | .poll | .hold => s

/-! ## Line idle and the hook -/

/-- R95: the LINE_LOADED reading of a block end. -/
def viewReading (loaded : Bool) (s : State) : State :=
  { s with view.idle := if loaded then 0 else min 50 (s.view.idle + 1) }

/-- R95: LINE_IDLE is due. -/
def lineIdleDue (s : State) : Bool := decide (s.view.idle = 50) && !s.view.record.isFree

/-- R87, R100: the view takes an off-hook report. -/
def viewOffHook (s : State) : State := refreshOutputs { s with view.offHook := true }

/-- R96: the view takes HANG-UP. -/
def viewHangUp (s : State) : State :=
  viewOwnClear (refreshOutputs { s with view.offHook := false })

/-- R102: the view at the entry to setup mode; the hook item is kept. -/
def LineView.offline (v : LineView) : LineView := { LineView.reset with offHook := v.offHook }

end Sys2Proof.Machine
end

