-- ==== Sys2Proof/Machine/Request.lean ====
section
/-! DEFINITION. The Request Unit of chapter 8 (R131 to R147): the request record, the pending break, reply waits, polling, reverting, failure, glare, and the trunk requests. -/

namespace Sys2Proof.Machine

/-! ## The record -/

/-- The state with the request record replaced. -/
def setRecord (r : Option Request) (s : State) : State := { s with request.record := r }

/-- The state with the pending break replaced. -/
def setPendingBreak (b : Option Code) (s : State) : State := { s with request.pendingBreak := b }

/-- The record is REQUESTING or WAITING (R136, R139, R144 to R146). -/
def RequestState.underWay : RequestState → Bool
  | .requesting | .waiting => true
  | .reverting | .failed _ => false

/-- The record, when it is REQUESTING or WAITING and names this station. -/
def recordNaming (x : Code) (s : State) : Option Request :=
  match s.request.record with
  | some r => if r.called = x ∧ r.state.underWay = true then some r else none
  | none => none

/-- R137: the record once a word is queued for it: it waits for the word's notice. -/
def Request.sendingWait (r : Request) : Request := { r with wait := .sending, timer := 0 }

/-- R142: the tone of a failure reason. GLARE is no reason of the record (R142, log 37). -/
def FailReason.tone : FailReason → Script
  | .busy | .locked => .busy
  | .noCall | .noAnswer | .glare | .noStation | .lost | .noisy => .error

/-! ## Failure -/

/-- R142: WITHDRAW(called), or the CLEAR that the failure queues in its place. -/
def withdrawOrClear (withClear : Bool) (x : Code) (s : State) : State :=
  if withClear then queue .requestUnit .clear x none s else withdraw .requestUnit x s

/-- R142: the record's fields in FAILED. -/
def Request.failed (r : Request) (why : FailReason) (offHook : Bool) : Request :=
  { r with
    state := .failed why, misses := 0, away := false, relifted := false
    wait := if offHook then .stopped else .showing
    timer := if offHook then 0 else 500 }

/-- R142: the last act of a failure: the failure tone when off-hook. -/
def failureTone (why : FailReason) (s : State) : State :=
  if s.request.offHook then start .requestUnit why.tone s else s

/-- R142: the record `r` enters FAILED. -/
def failRequest (r : Request) (why : FailReason) (withClear : Bool) (s : State) : State :=
  let failed := setRecord (some (r.failed why s.request.offHook)) s
  let released := withdrawOrClear withClear r.called failed
  let quiet := if r.state = .reverting then stopNow .requestUnit .ringer released else released
  failureTone why quiet

/-! ## Starting a request -/

/-- R132: RING queued and the record REQUESTING; INSTRUCT is not part of it. -/
def ringFor (x : Code) (cls : CallClass) (away : Bool) (s : State) : State :=
  setRecord (some ⟨.requesting, x, cls, 1, 0, away, false, .sending, 0⟩)
    (queueRing .requestUnit cls x s)

/-- R133: the break-in: BREAK queued, the pending break set, INSTRUCT. -/
def beginBreakIn (x : Code) (s : State) : State :=
  start .requestUnit .instruct
    (setPendingBreak (some x) (queue .requestUnit .brk x none s))

/-- R132, R133: DIALLED for an ordinary or urgent call. -/
def dialledCall (urgent : Bool) (x : Code) (s : State) : State :=
  if requestClear s then
    if urgent && heldByOthers s then beginBreakIn x s
    else start .requestUnit .instruct
      (ringFor x (if urgent then .urgent else .ordinary) false s)
  else s

/-- R134: DIALLED for a general alert. -/
def dialledAlert (s : State) : State := queue .requestUnit .brk 0 none s

/-! ## The transmitter's notices (R133 to R138) -/

/-- R133: the pending BREAK has been sent. -/
def breakSent (x : Code) (s : State) : State :=
  let t := setPendingBreak none s
  if slotEmpty t then ringFor x .urgent false t else stopNow .requestUnit .earpiece t

/-- R133: the pending BREAK was abandoned. The record had sent no RING (log 17). -/
def breakAbandoned (x : Code) (s : State) : State :=
  failRequest ⟨.requesting, x, .urgent, 0, 0, false, false, .sending, 0⟩ .noisy false
    (setPendingBreak none s)

/-- R135, R137: the REPLY wait is loaded by a word-sent notice. -/
def Request.replyWait (r : Request) : Request := { r with wait := .reply, timer := 100 }

/-- R135, R137: the record waits in this state for the notice of a word to `x`. -/
def Request.awaits (r : Request) (st : RequestState) (x : Code) : Bool :=
  decide (r.state = st) && decide (r.wait = .sending) && decide (r.called = x)

/-- R135, R137: a word-sent notice for a RING or a POLL. -/
def requestSent (st : RequestState) (x : Code) (s : State) : State :=
  match s.request.record with
  | some r => if r.awaits st x then setRecord (some r.replyWait) s else s
  | none => s

/-- R133 to R138: the Request Unit takes a word-sent notice. That of a BREAK to 0 acts by R134 whatever the record's state, FAILED too (DESIGN CHOICE, log 45). -/
def ruSent (w : LineWord) (s : State) : State :=
  match w.kind with
  | .brk =>
    if w.dst = 0 then start .requestUnit .cleared s
    else if s.request.pendingBreak = some w.dst then breakSent w.dst s
    else s
  | .ring => requestSent .requesting w.dst s
  | .poll => requestSent .waiting w.dst s
  | .hold | .answer | .refuse | .clear => s

/-- R137: a poll has been missed. -/
def missedPoll (r : Request) (s : State) : State :=
  if r.misses + 1 < 3 then
    setRecord (some { r.sendingWait with misses := r.misses + 1 })
      (queue .requestUnit .poll r.called none s)
  else failRequest r .lost true s

/-- R138: the RING to the called station was abandoned. -/
def ringAbandoned (x : Code) (s : State) : State :=
  match s.request.record with
  | some r => if r.state = .requesting ∧ r.called = x then failRequest r .noisy false s else s
  | none => s

/-- R138: the POLL to the called station was abandoned. -/
def pollAbandoned (x : Code) (s : State) : State :=
  match s.request.record with
  | some r => if r.awaits .waiting x then missedPoll r s else s
  | none => s

/-- R133, R134, R138: the Request Unit takes a word-abandoned notice, whatever the cause. That of a BREAK to 0 acts by R134 whatever the record's state, FAILED too (DESIGN CHOICE, log 45). -/
def ruAbandoned (w : LineWord) (s : State) : State :=
  match w.kind with
  | .brk =>
    if w.dst = 0 then start .requestUnit .error s
    else if s.request.pendingBreak = some w.dst then breakAbandoned w.dst s
    else s
  | .ring => ringAbandoned w.dst s
  | .poll => pollAbandoned w.dst s
  | .hold | .answer | .refuse | .clear => s

/-! ## Replies (R136, R140, R141, R144) -/

/-- R136: HOLD taken. -/
def holdTaken (r : Request) (s : State) : State :=
  let t := withdraw .requestUnit r.called
    (setRecord (some { r with state := .waiting, misses := 0, wait := .delay, timer := 100 }) s)
  if t.request.offHook then start .requestUnit .ringback t else t

/-- R144: the record is dropped without a word. -/
def dropRequest (x : Code) (s : State) : State :=
  setRecord none (stopNow .requestUnit .earpiece (withdraw .requestUnit x s))

/-- R137, R140: an on-hook caller is rung back; the ANSWER is a reply, so misses returns to 0; the revert wait is 250 blocks for each unit of the setting, and the flags are cleared (log 18). -/
def beginRevert (r : Request) (s : State) : State :=
  let blocks := 250 * (s.settings.map (·.revert)).getD 6
  start .requestUnit .revert
    (setRecord
      (some { r with state := .reverting, misses := 0, away := false, relifted := false
                     wait := .revert, timer := blocks }) s)

/-- R140: ANSWER taken. -/
def answerTaken (r : Request) (s : State) : State :=
  let t := withdraw .requestUnit r.called s
  if r.cls = .trunk then setRecord none t
  else if t.request.offHook then stopNow .requestUnit .earpiece (setRecord none t)
  else beginRevert r t

/-- R136, R140, R144: a matching reply in REQUESTING or WAITING. -/
def replyTaken (r : Request) (w : LineWord) (s : State) : State :=
  match w.kind with
  | .hold => holdTaken r s
  | .refuse =>
    if failReasonOf w.arg = .glare then dropRequest r.called s
    else failRequest r (failReasonOf w.arg) false s
  | .clear => failRequest r .noAnswer false s
  | .answer => answerTaken r s
  | .ring | .poll | .brk => s

/-- R141: a matching reply in REVERTING: CLEAR alone has an effect. -/
def replyInRevert (r : Request) (w : LineWord) (s : State) : State :=
  if w.kind = .clear then failRequest r .noAnswer false s else s

/-- R131, R136: the Request Unit takes a delivered HOLD, ANSWER, REFUSE or CLEAR. -/
def ruWord (w : LineWord) (s : State) : State :=
  match s.request.record with
  | none => s
  | some r =>
    if r.called = w.src then
      match r.state with
      | .requesting | .waiting => replyTaken r w s
      | .reverting => replyInRevert r w s
      | .failed _ => s
    else s

/-- R144: YIELD(X) from the Answer Unit. -/
def yieldTo (x : Code) (s : State) : State :=
  match recordNaming x s with
  | some _ => dropRequest x s
  | none => s

/-- R145: the Request Unit takes held by others. -/
def ruHeldByOthers (s : State) : State :=
  match s.request.record with
  | some r =>
    if r.state.underWay && decide (r.cls ≠ .urgent) then failRequest r .locked true s else s
  | none => s

/-! ## Hook reports (R139, R141, R143) -/

/-- R139: the request is abandoned: CLEAR queued and the record NONE. -/
def abandonRequest (r : Request) (s : State) : State :=
  setRecord none (queue .requestUnit .clear r.called none s)

/-- R139: an off-hook report in REQUESTING or WAITING. -/
def liftDuring (r : Request) (s : State) : State :=
  if r.away then
    if slotAnswerable s then abandonRequest r s
    else start .requestUnit .ringback (setRecord (some { r with relifted := true }) s)
  else s

/-- R141: an off-hook report in REVERTING. -/
def liftInRevert (r : Request) (s : State) : State :=
  if slotAnswerable s then failRequest r .busy true s
  else stopNow .requestUnit .ringer (setRecord none s)

/-- R143: an off-hook report in FAILED. -/
def liftInFailed (r : Request) (why : FailReason) (s : State) : State :=
  if r.wait = .showing then
    start .requestUnit why.tone (setRecord (some { r with wait := .stopped, timer := 0 }) s)
  else s

/-- R139, R141, R143: the Request Unit takes an off-hook report. -/
def ruOffHook (s : State) : State :=
  let t := { s with request.offHook := true }
  match t.request.record with
  | none => t
  | some r =>
    match r.state with
    | .requesting | .waiting => liftDuring r t
    | .reverting => liftInRevert r t
    | .failed why => liftInFailed r why t

/-- R133: a HANG-UP cancels a pending break. -/
def cancelBreak (s : State) : State :=
  match s.request.pendingBreak with
  | some x => setPendingBreak none (withdraw .requestUnit x s)
  | none => s

/-- R139: a HANG-UP in REQUESTING or WAITING. -/
def hangUpDuring (r : Request) (s : State) : State :=
  if r.relifted then abandonRequest r s
  else if r.away then s
  else setRecord (some { r with away := true }) s

/-- R133, R139, R143: the Request Unit takes HANG-UP. -/
def ruHangUp (s : State) : State :=
  let t := cancelBreak { s with request.offHook := false }
  match t.request.record with
  | none => t
  | some r =>
    match r.state with
    | .requesting | .waiting => hangUpDuring r t
    | .reverting => t
    | .failed _ => setRecord (some { r with wait := .showing, timer := 500 }) t

/-- R143: finish of ERROR while FAILED and off-hook starts ERROR again; every other finish is ignored. -/
def ruFinish (sc : Script) (s : State) : State :=
  match s.request.record with
  | some r =>
    match r.state with
    | .failed _ => if sc = .error ∧ s.request.offHook = true then start .requestUnit .error s else s
    | .requesting | .waiting | .reverting => s
  | none => s

/-! ## Trunk requests (R146) -/

/-- R146: the Request Unit would take ORIGINATE(X). -/
def originateTaken (x : Code) (s : State) : Bool :=
  recordNone s &&
    (match s.answer.slot with
    | some c => decide (c.caller ≠ x)
    | none => true)

/-- R146: ORIGINATE(X) taken. -/
def ruOriginate (x : Code) (s : State) : State := ringFor x .trunk true s

/-- R146: CANCEL. -/
def ruCancel (s : State) : State :=
  match s.request.record with
  | some r => if r.state.underWay && decide (r.cls = .trunk) then abandonRequest r s else s
  | none => s

/-! ## The record's own expiries -/

/-- R131: the record stands in this state and wait with its time over. -/
def expired (st : RequestState) (w : RequestWait) (s : State) : Bool :=
  match s.request.record with
  | some r => decide (r.state = st) && decide (r.wait = w) && decide (r.timer = 0)
  | none => false

/-- R143: the record is FAILED with its SHOW wait over. -/
def showExpired (s : State) : Bool :=
  match s.request.record with
  | some r =>
    (match r.state with
    | .failed _ => true
    | .requesting | .waiting | .reverting => false) &&
      decide (r.wait = .showing) && decide (r.timer = 0)
  | none => false

/-- R135: RING_REPLY_EXPIRY is due. -/
def ringReplyDue (s : State) : Bool := expired .requesting .reply s

/-- R137: DELAY_EXPIRY is due. -/
def delayDue (s : State) : Bool := expired .waiting .delay s

/-- R137: POLL_REPLY_EXPIRY is due. -/
def pollReplyDue (s : State) : Bool := expired .waiting .reply s

/-- R141: REVERT_EXPIRY is due. -/
def revertDue (s : State) : Bool := expired .reverting .revert s

/-- Apply an action to the record present. -/
def onRecord (f : Request → State → State) (s : State) : State :=
  match s.request.record with
  | some r => f r s
  | none => s

/-- R135: RING sent again, or NO-STATION after the third. -/
def takeRingReply (s : State) : State :=
  onRecord (fun r t =>
    if r.sends < 3 then
      setRecord (some { r.sendingWait with sends := r.sends + 1 })
        (queueRing .requestUnit r.cls r.called t)
    else failRequest r .noStation false t) s

/-- R137: POLL queued. -/
def takeDelay (s : State) : State :=
  onRecord (fun r t =>
    setRecord (some r.sendingWait) (queue .requestUnit .poll r.called none t)) s

/-- R137: the poll has been missed. -/
def takePollReply (s : State) : State := onRecord missedPoll s

/-- R141: the farmer has not come back. -/
def takeRevert (s : State) : State := onRecord (fun r t => failRequest r .noAnswer true t) s

/-- R143: the record becomes NONE. -/
def takeShow (s : State) : State := setRecord none s

/-- R131: the record's timer falls by 1 at a block end while its wait is timed. -/
def Request.tickBlock (r : Request) : Request :=
  match r.wait with
  | .reply | .delay | .revert | .showing => { r with timer := r.timer - 1 }
  | .sending | .stopped => r

/-- R131: the request record's timer at a block end. -/
def tickRecord (s : State) : State :=
  { s with request.record := s.request.record.map Request.tickBlock }

end Sys2Proof.Machine
end

