-- ==== Sys2Proof/Machine/Answer.lean ====
section
/-! DEFINITION. The Answer Unit of chapter 7 (R104 to R124) and the trunk-end's taking of a farm's RING (R154): the call slot and every event that changes it. -/

namespace Sys2Proof.Machine

/-! ## The slot -/

/-- The state with the slot replaced. -/
def setSlot (c : Option Call) (s : State) : State := { s with answer.slot := c }

/-- R104, R106: a slot that enters RINGING. -/
def ringingCall (snd : Sounder) (x : Code) (k : CallClass) : Call := ⟨.ringing snd, x, k, 0, 0, 500⟩

/-- R106, R110: a new call that is already answered. -/
def answeredCall (x : Code) (k : CallClass) : Call := ⟨.answered, x, k, 0, 0, 300⟩

/-- R114, R115: a call that becomes ANSWERED. The marks of an earpiece call stay as they are (DESIGN CHOICE, log 42). -/
def Call.answer (c : Call) : Call := { c with phase := .answered, timer := 300 }

/-- R104: the ring cycle limit in force. -/
def cycleLimit (s : State) : Nat := (s.settings.map (·.limit)).getD 10

/-- R104: the ordinary cadence in force. -/
def ringCadence (s : State) : Fin 8 := (s.settings.map (·.cadence)).getD 0

/-- R110: the ringer script of a class. -/
def ringerScript (k : CallClass) (s : State) : Script :=
  match k with
  | .ordinary => .ring (ringCadence s)
  | .trunk => .trunk
  | .urgent => .urgent

/-- R123: the slot becomes EMPTY without a word to the caller. -/
def letGo (c : Call) (s : State) : State := withdraw .answerUnit c.caller (setSlot none s)

/-! ## RING (R107 to R110, R154) -/

/-- The view is HELD or BROKEN and this station is involved (R109). -/
def engaged (s : State) : Bool := isInvolved s

/-- R109: the reply that refuses a RING of this class to an EMPTY slot, if any. -/
def ringRefusal (k : CallClass) (s : State) : Option Refuse :=
  if k = .urgent then none
  else if engaged s then some .busy
  else if heldByOthers s then some .locked
  else if s.answer.offHook && !requestClear s then some .busy
  else none

/-- R110: a call rung on the bell. -/
def ringOnBell (x : Code) (k : CallClass) (s : State) : State :=
  start .answerUnit (ringerScript k s) (setSlot (some (ringingCall .ringer x k)) s)

/-- R110: a call rung in the earpiece. -/
def ringInEar (x : Code) (k : CallClass) (s : State) : State :=
  start .answerUnit .urgentCall (setSlot (some (ringingCall .earpiece x k)) s)

/-- R110: a farmer off-hook and free has answered. -/
def answerAtOnce (x : Code) (k : CallClass) (s : State) : State :=
  start .answerUnit .answerWait (setSlot (some (answeredCall x k)) s)

/-- R110: a RING taken into the EMPTY slot of a farm station. -/
def takeRing (x : Code) (k : CallClass) (s : State) : State :=
  let t := queue .answerUnit .hold x none s
  if !s.answer.offHook then ringOnBell x k t
  else if !isInvolved s && requestClear s then answerAtOnce x k t
  else ringInEar x k t

/-- R154: the RINGs that the trunk-end refuses BUSY. -/
def trunkEndBusy (x : Code) (k : CallClass) (s : State) : Bool :=
  !recordNone s ||
    (decide (k = .ordinary) && trunkPresent s && decide (s.trunk.latched ≠ some x))

/-- R154: a RING at the trunk-end. In the third row HOLD is queued to `x` before RELEASE is given to the view (DESIGN CHOICE, log 48: the table orders neither). -/
def trunkEndRing (x : Code) (k : CallClass) (s : State) : State :=
  if trunkEndBusy x k s then queueRefuse .answerUnit .busy x s
  else
    let t := setSlot (some (answeredCall x k)) (queue .answerUnit .hold x none s)
    if k = .urgent ∧ isParty s = true then viewRelease t else t

/-- R108: an urgent RING preempts the call `old`. -/
def preempt (old : Call) (x : Code) (s : State) : State :=
  queue .answerUnit .hold x none
    (start .answerUnit .urgent
      (setSlot (some (ringingCall .ringer x .urgent)) (withdraw .answerUnit old.caller s)))

/-- R108: the call is RINGING with class ordinary or trunk. -/
def Call.preemptible (c : Call) : Bool :=
  match c.phase with
  | .ringing _ => decide (c.cls ≠ .urgent)
  | .answered | .delivered | .expired => false

/-- R108: a RING that meets another station's call. The re-sent RING of a caller that was preempted is such a RING and is answered BUSY, as the last sentence of R108 says (DESIGN CHOICE, log 47: the same rule also names NO-CALL for it). -/
def ringMeetsCall (c : Call) (x : Code) (k : CallClass) (s : State) : State :=
  if k = .urgent ∧ c.preemptible = true then preempt c x s else queueRefuse .answerUnit .busy x s

/-- R109, R110, R154: a RING to an EMPTY slot. -/
def ringToEmpty (x : Code) (k : CallClass) (s : State) : State :=
  match ringRefusal k s with
  | some r => queueRefuse .answerUnit r x s
  | none => if isTrunkEnd s then trunkEndRing x k s else takeRing x k s

/-- R108 to R110: a RING past the glare test. -/
def ringPastGlare (x : Code) (k : CallClass) (s : State) : State :=
  match s.answer.slot with
  | some c => ringMeetsCall c x k s
  | none => ringToEmpty x k s

/-- R107, R144: this station's code is lower than `x`. -/
def lowerThan (x : Code) (s : State) : Bool :=
  match ownCode s with
  | some own => decide (own < x)
  | none => false

/-- R107: the record's tests of a RING from `x`. -/
def ringAgainstRecord (x : Code) (k : CallClass) (s : State) : State :=
  match s.request.record with
  | some r =>
    if r.called = x then
      if r.state.underWay then
        if lowerThan x s then queueRefuse .answerUnit .glare x s
        else ringPastGlare x k (yieldTo x s)
      else queueRefuse .answerUnit .busy x s
    else ringPastGlare x k s
  | none => ringPastGlare x k s

/-! ## POLL (R111) -/

/-- R111: the slot matches a POLL from `x`. -/
def pollMatching (c : Call) (x : Code) (s : State) : State :=
  match c.phase with
  | .ringing _ => setSlot (some { c with timer := 500 }) (queue .answerUnit .hold x none s)
  | .answered =>
    stopNow .answerUnit .earpiece
      (setSlot (some { c with phase := .delivered, timer := 200 })
        (queue .answerUnit .answer x none s))
  | .delivered => setSlot (some { c with timer := 200 }) (queue .answerUnit .answer x none s)
  | .expired => setSlot none (queueRefuse .answerUnit .noAnswer x s)

/-- R111: a POLL, or a RING taken as one, from `x`. -/
def auPoll (x : Code) (s : State) : State :=
  match s.answer.slot with
  | some c => if c.caller = x then pollMatching c x s else queueRefuse .answerUnit .noCall x s
  | none => queueRefuse .answerUnit .noCall x s

/-- R107: the slot holds a call from this station. -/
def slotHolds (x : Code) (s : State) : Bool :=
  match s.answer.slot with
  | some c => decide (c.caller = x)
  | none => false

/-- R107: a RING from `x` with class `k`. -/
def auRing (x : Code) (k : CallClass) (s : State) : State :=
  if slotHolds x s then auPoll x s else ringAgainstRecord x k s

/-! ## CLEAR (R119) -/

/-- R119: the sounding of a call that its caller has ended. -/
def clearSounding (c : Call) (s : State) : State :=
  match c.phase with
  | .ringing .ringer => stopAtCycle .answerUnit .ringer s
  | .ringing .earpiece => stopNow .answerUnit .earpiece s
  | .answered => start .answerUnit .callerGone s
  | .delivered | .expired => s

/-- R119: a CLEAR from `x`. -/
def auClear (x : Code) (s : State) : State :=
  match s.answer.slot with
  | some c =>
    if c.caller = x then
      withdraw .answerUnit x (clearSounding c (setSlot none s))
    else s
  | none => s

/-- R49: the Answer Unit takes a delivered RING, POLL or CLEAR. -/
def auWord (w : LineWord) (s : State) : State :=
  match w.kind with
  | .ring => auRing w.src (classFrom w.src w.arg) s
  | .poll => auPoll w.src s
  | .clear => auClear w.src s
  | .hold | .answer | .refuse | .brk => s

/-! ## Ringing and its count (R112, R113, R122) -/

/-- R112, R113: the ringing has reached its limit: EXPIRED, and the voice stopped. -/
def slotExpired (c : Call) (v : ScriptVoice) (s : State) : State :=
  stopNow .answerUnit v (setSlot (some { c with phase := .expired }) s)

/-- R112, R113: a ringing cycle completed. -/
def countCycle (c : Call) (v : ScriptVoice) (s : State) : State :=
  let d := { c with cycles := c.cycles + 1 }
  if cycleLimit s ≤ d.cycles then slotExpired d v s else setSlot (some d) s

/-- R113: an URGENT-CALL mark; four make a cycle. -/
def countMark (c : Call) (s : State) : State :=
  if c.marks + 1 < 4 then setSlot (some { c with marks := c.marks + 1 }) s
  else countCycle { c with marks := 0 } .earpiece s

/-- R112, R113: the Answer Unit takes CYCLE of a script it started. -/
def auCycle (sc : Script) (s : State) : State :=
  match s.answer.slot with
  | some c =>
    match c.phase with
    | .ringing .ringer => if sc.voice = .ringer then countCycle c .ringer s else s
    | .ringing .earpiece => if sc = .urgentCall then countMark c s else s
    | .answered | .delivered | .expired => s
  | none => s

/-- R122: the Answer Unit takes ringer free. -/
def auRingerFree (s : State) : State :=
  match s.answer.slot with
  | some c =>
    if c.phase = .ringing .ringer ∧ s.answer.offHook = false then
      start .answerUnit (ringerScript c.cls s) s
    else s
  | none => s

/-! ## Hook reports (R113 to R115, R120) -/

/-- R114: the Answer Unit takes an off-hook report. -/
def auOffHook (s : State) : State :=
  let t := { s with answer.offHook := true }
  match t.answer.slot with
  | none => stopNow .answerUnit .ringer t
  | some c =>
    match c.phase with
    | .ringing .ringer =>
      start .answerUnit .answerWait
        (stopNow .answerUnit .ringer (setSlot (some c.answer) t))
    | .ringing .earpiece => t
    | .answered | .delivered | .expired => stopNow .answerUnit .ringer t

/-- R115: the Answer Unit takes a FLASH. -/
def auFlash (s : State) : State :=
  match s.answer.slot with
  | some c =>
    if c.phase = .ringing .earpiece then
      viewRelease
        (start .answerUnit .answerWait
          (stopNow .answerUnit .earpiece (setSlot (some c.answer) s)))
    else s
  | none => s

/-- R113: a HANG-UP moves an earpiece call to the bell. -/
def moveToBell (c : Call) (s : State) : State :=
  start .answerUnit .urgent
    (setSlot (some { c with phase := .ringing .ringer, marks := 0 }) s)

/-- R120: a HANG-UP in DELIVERED: the Line View or the Answer Unit clears the caller. -/
def hangUpDelivered (c : Call) (s : State) : State :=
  if viewClears c.caller s then letGo c s
  else setSlot none (queue .answerUnit .clear c.caller none s)

/-- R113, R120: the Answer Unit takes HANG-UP. -/
def auHangUp (s : State) : State :=
  let t := { s with answer.offHook := false }
  match t.answer.slot with
  | none => t
  | some c =>
    match c.phase with
    | .ringing .earpiece => moveToBell c t
    | .answered => setSlot none (queue .answerUnit .clear c.caller none t)
    | .delivered => hangUpDelivered c t
    | .ringing .ringer | .expired => t

/-! ## Held by others (R121) -/

/-- R121: the Answer Unit takes held by others. -/
def auHeldByOthers (s : State) : State :=
  match s.answer.slot with
  | some c =>
    if c.preemptible then
      queueRefuse .answerUnit .locked c.caller
        (stopAtCycle .answerUnit .ringer (setSlot none s))
    else s
  | none => s

/-! ## The slot's expiries (R106, R116 to R118) -/

/-- R106: the slot's timer at a block end. -/
def tickSlot (s : State) : State :=
  { s with answer.slot := s.answer.slot.map (fun c => { c with timer := c.timer - 1 }) }

/-- R106: the slot's timer is over. -/
def slotTimeOver (s : State) : Bool :=
  match s.answer.slot with
  | some c => decide (c.timer = 0)
  | none => false

/-- The slot holds a call in ANSWERED. -/
def slotAnswered (s : State) : Bool :=
  match s.answer.slot with
  | some c => decide (c.phase = .answered)
  | none => false

/-- The slot holds a call in DELIVERED. -/
def slotDelivered (s : State) : Bool :=
  match s.answer.slot with
  | some c => decide (c.phase = .delivered)
  | none => false

/-- R116: COMPLETION_HOLD_EXPIRY is due. -/
def completionHoldDue (s : State) : Bool := slotTimeOver s && slotAnswered s

/-- R117: LINGER_EXPIRY is due. -/
def lingerDue (s : State) : Bool := slotTimeOver s && slotDelivered s

/-- R118: POLL_LOSS_EXPIRY is due, in RINGING or EXPIRED. -/
def pollLossDue (s : State) : Bool := slotTimeOver s && !slotAnswered s && !slotDelivered s

/-- Apply an action to the call in the slot. -/
def onCall (f : Call → State → State) (s : State) : State :=
  match s.answer.slot with
  | some c => f c s
  | none => s

/-- R116: the caller has stopped asking. -/
def takeCompletionHold (s : State) : State :=
  onCall (fun c t => start .answerUnit .callerGone (letGo c t)) s

/-- R117: the linger is over. -/
def takeLinger (s : State) : State := onCall letGo s

/-- R118: the sounding of a call whose caller has stopped polling. -/
def lossSounding (c : Call) (s : State) : State :=
  match c.phase with
  | .ringing .ringer => stopAtCycle .answerUnit .ringer s
  | .ringing .earpiece => stopNow .answerUnit .earpiece s
  | .answered | .delivered | .expired => s

/-- R118: the caller has stopped polling. -/
def takePollLoss (s : State) : State := onCall (fun c t => lossSounding c (letGo c t)) s

end Sys2Proof.Machine
end

