-- ==== Sys2Proof/Machine/Events.lean ====
section
/-! DEFINITION. How the blocks take the events they send one another (R66, R82, R99), and R127's rule that follows them: dialling that has stopped being open is discarded. -/

namespace Sys2Proof.Machine

/-! ## Events -/

/-- R82, R98, R123, R133 to R138: a word-sent notice. The Answer Unit ignores it. -/
def takeSent (o : Agent) (w : LineWord) (s : State) : State :=
  match o with
  | .requestUnit => ruSent w s
  | .lineView => viewNotice w s
  | .answerUnit | .dialDecoder => s

/-- R82, R98, R123, R133 to R138: a word-abandoned notice. The Answer Unit ignores it. -/
def takeAbandoned (o : Agent) (w : LineWord) (s : State) : State :=
  match o with
  | .requestUnit => ruAbandoned w s
  | .lineView => viewNotice w s
  | .answerUnit | .dialDecoder => s

/-- R94, R100, R103, R122, R130, R143: a finish event; the Request Unit alone acts on one. -/
def takeFinish (a : Agent) (sc : Script) (s : State) : State :=
  match a with
  | .requestUnit => ruFinish sc s
  | .answerUnit | .lineView | .dialDecoder => s

/-- R99, R121, R145: held by others. -/
def takeHeldByOthers (a : Agent) (s : State) : State :=
  match a with
  | .answerUnit => auHeldByOthers s
  | .requestUnit => ruHeldByOthers s
  | .lineView | .dialDecoder => s

/-- An event taken by the block it goes to. Every block ignores a lost event (R94, R103, R113, R122, R130, R139 to R142). -/
def takeEvent (e : Event) (s : State) : State :=
  match e with
  | .sent o w => takeSent o w s
  | .abandoned o w _ => takeAbandoned o w s
  | .lost _ _ => s
  | .finish a sc => takeFinish a sc s
  | .ringerFree => auRingerFree s
  | .heldByOthers a _ => takeHeldByOthers a s

/-- Take the events raised, first in first out, up to `n` of them; no command raises as many as would be left (log 7). -/
def drain : Nat → State → State
  | 0, s => { s with inbox := [] }
  | n + 1, s =>
    match s.inbox with
    | [] => s
    | e :: rest => drain n (takeEvent e { s with inbox := rest })

/-- More events than one command can raise (log 7). -/
def drainFuel : Nat := 64

/-! ## Dialling (R127) -/

/-- R127: dialling is open. The on-hook period runs exactly while the hook state is ON-HOOK. -/
def diallingOpen (s : State) : Bool :=
  decide (s.dial.hook = .offHook) && requestClear s && !isParty s && slotEmpty s && inService s

/-- R127: the dialling in progress is discarded. -/
def DialDecoder.discard (d : DialDecoder) : DialDecoder :=
  { d with
    state := .idle, pulses := 0, opening := 0, closure := 0, buffer := [], digitWait := none }

/-- R127: dialling that is not open is discarded, but while the hook state is ON-HOOK, when only the digit in progress goes (R127, log 16). -/
def followDial (s : State) : State :=
  if s.dial.hook ≠ .onHook ∧ diallingOpen s = false then { s with dial := s.dial.discard } else s

/-- What ends every command: its events are taken and the dialling follows. -/
def finish (s : State) : State := followDial (drain drainFuel s)

end Sys2Proof.Machine
end

