-- ==== Sys2Proof/Machine/Cadence.lean ====
section
/-! DEFINITION. The stepping of the cadence scripts on voices 2 and 3 (R57 to R60). -/

namespace Sys2Proof.Machine

/-- R59: CYCLE to the script's starter, taken at once: it may answer with a stop at the same boundary. The Answer Unit alone acts on one (R103, R112, R113, R130, R131). -/
def sendCycle (starter : Option Agent) (sc : Script) (s : State) : State :=
  match starter with
  | some .answerUnit => auCycle sc s
  | some .requestUnit | some .lineView | some .dialDecoder | none => s

/-- R58: a SOUND step begins. -/
def beginSound (v : ScriptVoice) (i : Nat) (p : Pitch) (ticks : Nat) (s : State) : State :=
  setVoice v
    { s.engine.voice v with
      index := i, remaining := ticks, step := p.step, phase := 0, begun := true } s

/-- R58: a QUIET step begins; the phase is held. -/
def beginQuiet (v : ScriptVoice) (i : Nat) (ticks : Nat) (s : State) : State :=
  setVoice v { s.engine.voice v with index := i, remaining := ticks, begun := true } s

/-- The most steps executed at one boundary: at most three untimed ones and the timed one after them (R57, R69, R70). -/
def scriptFuel : Nat := 20

/-- R60: the play count after REPEAT n, or none where REPEAT acts as END. -/
def repeatPlays (n : Nat) (c : CadenceVoice) : Option Nat :=
  if c.stopPending then none
  else if n = 0 then some c.plays
  else if c.plays < n then some (c.plays + 1)
  else none

/-- R57 to R60: execute the steps of the voice's script from step `i` until a timed step begins or the script ends. -/
def runScript : Nat → ScriptVoice → Nat → State → State
  | 0, _, _, s => s
  | fuel + 1, v, i, s =>
    let c := s.engine.voice v
    match c.script with
    | none => s
    | some sc =>
      match sc.steps[i]? with
      | none => endScript v s
      | some (.sound p ticks) => beginSound v i p ticks s
      | some (.quiet ticks) => beginQuiet v i ticks s
      | some .mark =>
        if c.stopPending then endScript v s
        else runScript fuel v (i + 1) (sendCycle c.starter sc s)
      | some (.again n) =>
        match repeatPlays n c with
        | some plays => runScript fuel v 0 (setVoice v { c with plays := plays } s)
        | none => endScript v s
      | some .finish => endScript v s

/-- R57: voice 2 or 3 at a tick boundary: a new script begins step 0; a timed step has one tick less. -/
def tickVoice (v : ScriptVoice) (s : State) : State :=
  let c := s.engine.voice v
  if c.script.isNone then s
  else if c.begun then setVoice v { c with remaining := c.remaining - 1 } s
  else runScript scriptFuel v 0 s

/-- SCRIPT_STEP_END is due on a voice (R57). -/
def scriptStepDue (v : ScriptVoice) (s : State) : Bool :=
  let c := s.engine.voice v
  c.script.isSome && c.begun && decide (c.remaining = 0)

/-- R57: the timed step ends and the next steps are executed. -/
def takeScriptStep (v : ScriptVoice) (s : State) : State :=
  finish (runScript scriptFuel v ((s.engine.voice v).index + 1) s)

end Sys2Proof.Machine
end

