-- ==== Sys2Proof/Machine/Operands.lean ====
section
/-! DEFINITION. How the order operands of the commands are applied. -/

namespace Sys2Proof.Machine

/-- Apply the actions of the Line View, the Answer Unit and the Request Unit in the order given (R49, R126). -/
def inOrder (o : DeliveryOrder) (view answer request : State → State) (s : State) : State :=
  match o with
  | .viewAnswerRequest => request (answer (view s))
  | .viewRequestAnswer => answer (request (view s))
  | .answerViewRequest => request (view (answer s))
  | .answerRequestView => view (request (answer s))
  | .requestViewAnswer => answer (view (request s))
  | .requestAnswerView => view (answer (request s))

/-- Apply an action when the flag is set. -/
def onlyIf (b : Bool) (f : State → State) (s : State) : State := if b then f s else s

end Sys2Proof.Machine
end

