-- ==== Sys2Proof/Machine/Dial.lean ====
section
/-! DEFINITION. The Dial Decoder of chapter 8: reading HOOK and DIAL at a tick (R125, R126, R128), hook reports (R126), pulses and digits (R128), the dial plan (R129) and its checks (R130). -/

namespace Sys2Proof.Machine

/-- The state with the decoder replaced. -/
def setDial (d : DialDecoder) (s : State) : State := { s with dial := d }

/-! ## HOOK at a tick -/

/-- R125, R126: HOOK read once more. -/
def DialDecoder.readHook (d : DialDecoder) (closed : Bool) : DialDecoder :=
  if d.rawLevel = some closed then { d with rawRun := min 3 (d.rawRun + 1) }
  else { d with rawLevel := some closed, rawRun := 1 }

/-- R126: the on-hook period rises, and at 80 HANG-UP is due. -/
def DialDecoder.tickPeriod (d : DialDecoder) : DialDecoder :=
  if d.hook = .onHook ∧ d.period < 80 then
    { d with period := d.period + 1, hangUpDue := d.hangUpDue || decide (d.period = 79) }
  else d

/-- R126: the contact has read, for 3 ticks, a level that is not the hook state's. -/
def DialDecoder.changeDue (d : DialDecoder) : Bool :=
  decide (d.rawRun = 3) &&
    (match d.rawLevel with
    | some true => decide (d.hook ≠ .offHook)
    | some false => decide (d.hook ≠ .onHook)
    | none => false)

/-! ## DIAL at a tick -/

/-- R127, R129: the digit wait falls. It is held while the hook state is ON-HOOK, since dialling is then not open. -/
def DialDecoder.tickWait (d : DialDecoder) : DialDecoder :=
  { d with digitWait := d.digitWait.map (· - 1) }

/-- R128: DIAL read in IDLE or COUNTING. An opening of 3 ticks or more that ends is left for PULSE or INVALID_DIGIT; a shorter one is a bounce, and the closure runs on through it (log 15). -/
def DialDecoder.readDial (d : DialDecoder) (closed : Bool) : DialDecoder :=
  if closed then
    if d.opening < 3 then
      { d with opening := 0, closure := min 30 (d.closure + d.opening + 1) }
    else d
  else { d with opening := min 11 (d.opening + 1) }

/-- R128: DIAL read in BARRED: closed ticks in a row are counted. -/
def DialDecoder.readBarred (d : DialDecoder) (closed : Bool) : DialDecoder :=
  { d with opening := 0, closure := if closed then min 30 (d.closure + 1) else 0 }

/-- R127, R128: DIAL read at a tick, under the hook state before the change that may fall at the same tick (DESIGN CHOICE, log 44). -/
def tickDial (s : State) : State :=
  if diallingOpen s then
    let d := s.dial.tickWait
    match d.state with
    | .idle | .counting => setDial (d.readDial s.pins.dialClosed) s
    | .barred => setDial (d.readBarred s.pins.dialClosed) s
  else s

/-- R125, R126: HOOK read at a tick. The station coded 15 reads neither contact (R125). -/
def tickHook (s : State) : State :=
  if isTrunkEnd s then s
  else setDial (s.dial.tickPeriod.readHook s.pins.hookClosed) s

/-! ## Hook reports -/

/-- R126: the off-hook report; the engine hears it first (log 8). -/
def reportOffHook (o : DeliveryOrder) (s : State) : State :=
  inOrder o viewOffHook auOffHook ruOffHook (engineOffHook s)

/-- R126: HANG-UP; the engine hears it first (log 8). -/
def reportHangUp (o : DeliveryOrder) (s : State) : State :=
  inOrder o viewHangUp auHangUp ruHangUp (engineHangUp s)

/-- R127: a FLASH empties the buffer and stops the digit wait. -/
def DialDecoder.forgetDigits (d : DialDecoder) : DialDecoder :=
  { d with buffer := [], digitWait := none }

/-- HANG_UP is due (R126). -/
def hangUpDue (s : State) : Bool := s.dial.hangUpDue

/-- R126, R127: HANG-UP; the dialling is discarded, and a BARRED dial state ends with it (log 16). -/
def takeHangUp (o : DeliveryOrder) (s : State) : State :=
  finish (reportHangUp o (setDial { s.dial.discard with hangUpDue := false } s))

/-- R126: the decoder with hook state OFF-HOOK; the on-hook period is then 0 (DESIGN CHOICE, log 43). -/
def DialDecoder.lifted (d : DialDecoder) : DialDecoder := { d with hook := .offHook, period := 0 }

/-- R127: the decoder at a debounced change to ON-HOOK: the digit in progress goes, the buffer stays. -/
def DialDecoder.lowered (d : DialDecoder) : DialDecoder :=
  { d with
    hook := .onHook, period := 0, pulses := 0, opening := 0, closure := 0
    state := if d.state = .counting then .idle else d.state }

/-- R126: the end of an on-hook period: a bounce, a FLASH, or a lift after a hang-up. -/
def endPeriod (o : DeliveryOrder) (s : State) : State :=
  let d := s.dial.lifted
  if s.dial.period < 20 then setDial d s
  else if s.dial.period < 80 then auFlash (setDial d.forgetDigits s)
  else reportOffHook o (setDial d s)

/-- R125, R126: the debounced change. A change to OFF-HOOK wakes a dozing station (R167). -/
def changeHook (o : DeliveryOrder) (s : State) : State :=
  match s.dial.hook, s.dial.rawLevel with
  | .unknown, some true => reportOffHook o (setDial s.dial.lifted (wake s))
  | .unknown, some false => setDial { s.dial with hook := .onHook, period := 80 } s
  | .offHook, some false => setDial s.dial.lowered s
  | .onHook, some true => endPeriod o (wake s)
  | .unknown, none | .offHook, some true | .offHook, none | .onHook, some false
  | .onHook, none => s

/-- HOOK_DEBOUNCED_CHANGE is due (R126). The station coded 15 reads no hook (R125). -/
def hookChangeDue (s : State) : Bool := s.dial.changeDue && !isTrunkEnd s

/-- R126: the change, after a HANG-UP due at the same tick (log 14). -/
def takeHookChange (o : DeliveryOrder) (s : State) : State :=
  finish (changeHook o (if hangUpDue s then takeHangUp o s else s))

/-! ## Pulses and digits -/

/-- The decoder is reading a digit: dialling is open, and the state is IDLE or COUNTING (R128). -/
def readingDigit (s : State) : Bool := diallingOpen s && decide (s.dial.state ≠ .barred)

/-- R128: an opening of 3 to 10 ticks has ended. -/
def openingEnded (s : State) : Bool :=
  s.pins.dialClosed && decide (3 ≤ s.dial.opening) && decide (s.dial.opening ≤ 10)

/-- PULSE is due (R128). -/
def pulseDue (s : State) : Bool :=
  readingDigit s && openingEnded s && decide (s.dial.pulses < 10)

/-- R128: a pulse counted. -/
def takePulse (s : State) : State :=
  setDial
    { s.dial with
      pulses := s.dial.pulses + 1, state := .counting, opening := 0, closure := 0
      digitWait := none } s

/-- INVALID_DIGIT is due (R128): an opening of 11 ticks, or an eleventh pulse. -/
def invalidDigitDue (s : State) : Bool :=
  readingDigit s &&
    (decide (s.dial.opening = 11) || (openingEnded s && decide (10 ≤ s.dial.pulses)))

/-- R128: an invalid digit. -/
def takeInvalidDigit (s : State) : State :=
  finish (start .dialDecoder .error (setDial { s.dial.discard with state := .barred } s))

/-- DIGIT_END is due (R128). -/
def digitEndDue (s : State) : Bool :=
  diallingOpen s && decide (s.dial.state = .counting) && decide (s.dial.closure = 30)

/-- BARRED_RELEASE is due (R128). -/
def barredReleaseDue (s : State) : Bool :=
  decide (s.dial.state = .barred) && decide (s.dial.closure = 30)

/-- R128: BARRED ends. -/
def takeBarredRelease (s : State) : State := setDial { s.dial with state := .idle } s

/-! ## The dial plan -/

/-- What a buffer stands for (R129). -/
inductive Dialled where
  | call (urgent : Bool) (code : Code)
  | alert
  | incomplete
  | wrong
  deriving DecidableEq, Repr

/-- R129: the code that one digit, or 1 and a digit after it, names. -/
def namedCode (urgent : Bool) : List Nat → Dialled
  | [d] =>
    if 2 ≤ d ∧ d ≤ 9 then .call urgent (Fin.ofNat 16 d) else if d = 1 then .incomplete else .wrong
  | [1, e] => if e ≤ 5 then .call urgent (Fin.ofNat 16 (10 + e)) else .wrong
  | _ => .wrong

/-- R129: the dial plan at a digit's end. -/
def dialPlan : List Nat → Dialled
  | [0] => .incomplete
  | [0, 0] => .alert
  | 0 :: digits => namedCode true digits
  | digits => namedCode false digits

/-- R129: the dial plan when the digit wait runs out. -/
def dialPlanAtWait : List Nat → Dialled
  | [1] => .call false 1
  | [0, 1] => .call true 1
  | _ => .wrong

/-- R130: the permissions setting in force. -/
def permissionsOf (s : State) : Nat := (s.settings.map (·.permissions)).getD 0

/-- R130: urgent calls are permitted. -/
def urgentPermitted (s : State) : Bool := permissionsOf s == 1 || permissionsOf s == 3

/-- R130: general alerts are permitted. -/
def alertPermitted (s : State) : Bool := permissionsOf s == 2 || permissionsOf s == 3

/-- R130: the view is HELD with class urgent. -/
def heldUrgent (s : State) : Bool :=
  match s.view.record with
  | .held _ _ k => decide (k = .urgent)
  | .free | .broken .. => false

/-- R130: the tone that bars a call, if one does; the rows in their order. -/
def callBarred (urgent : Bool) (x : Code) (s : State) : Option Script :=
  if ownCode s = some x then some .error
  else if urgent && !urgentPermitted s then some .error
  else if !urgent && heldByOthers s then some .lockout
  else if urgent && heldByOthers s && heldUrgent s then some .lockout
  else none

/-- R129, R130: the dialling is discarded with a tone of the decoder's. -/
def rejectDialling (sc : Script) (s : State) : State :=
  start .dialDecoder sc (setDial s.dial.discard s)

/-- R130: the buffer is emptied and the decoder in IDLE. -/
def DialDecoder.settled (d : DialDecoder) : DialDecoder :=
  { d with buffer := [], digitWait := none, state := .idle }

/-- R129, R130: what a buffer's reading brings about. -/
def settleDialling (r : Dialled) (s : State) : State :=
  match r with
  | .wrong => rejectDialling .error s
  | .incomplete => setDial { s.dial with digitWait := some 300 } s
  | .alert =>
    if alertPermitted s then dialledAlert (setDial s.dial.settled s) else rejectDialling .error s
  | .call urgent x =>
    match callBarred urgent x s with
    | some sc => rejectDialling sc s
    | none => dialledCall urgent x (setDial s.dial.settled s)

/-- R128: the value of the digit in progress. -/
def digitValue (pulses : Nat) : Nat := if pulses = 10 then 0 else pulses

/-- R128, R129: the digit ends and the dial plan is applied. -/
def takeDigitEnd (s : State) : State :=
  let t := setDial
    { s.dial with
      buffer := s.dial.buffer ++ [digitValue s.dial.pulses], pulses := 0, state := .idle } s
  finish (settleDialling (dialPlan t.dial.buffer) t)

/-- DIGIT_WAIT_EXPIRY is due (R129), not while the wait is held (R127). -/
def digitWaitDue (s : State) : Bool := diallingOpen s && decide (s.dial.digitWait = some 0)

/-- R129: the digit wait has run out. -/
def takeDigitWait (s : State) : State :=
  finish (settleDialling (dialPlanAtWait s.dial.buffer)
    (setDial { s.dial with digitWait := none } s))

/-- R147: the decoder at the entry to setup mode: the dialling discarded, the hook state kept. -/
def DialDecoder.offline (d : DialDecoder) : DialDecoder := d.discard

/-- R125: the decoder after a reset; the hook state of the station coded 15 is held ON-HOOK (log 13). -/
def DialDecoder.atStart (trunkEnd : Bool) : DialDecoder :=
  if trunkEnd then { DialDecoder.reset with hook := .onHook } else .reset

end Sys2Proof.Machine
end

