-- ==== Sys2Proof/Machine/Reception.lean ====
section
/-! DEFINITION. The Word Receiver of chapter 3: the symbol stage (R36 to R42), the word stage (R43 to R46), own marks (R47, R48), clash (R50) and delivery (R49, R51). -/

namespace Sys2Proof.Machine

/-- The state with the symbol record replaced. -/
def setSymbol (r : SymbolRecord) (s : State) : State := { s with rx.symbol := r }

/-- The state with the word record replaced. -/
def setWord (w : Option WordRecord) (s : State) : State := { s with rx.word := w }

/-- The state with the unusable count replaced. -/
def setUnusable (n : Nat) (s : State) : State := { s with rx.unusable := n }

/-- A word in assembly is broken: the record is removed and BROKEN-WORD is set (R38 to R45). -/
def breakWord (s : State) : State :=
  match s.rx.word with
  | some _ => setBrokenWord (setWord none s)
  | none => s

/-! ## Own marks (R48) -/

/-- R48: a candidate's own mark is cleared by a block outside a transmission. -/
def SymbolRecord.markBlock (inTx : Bool) : SymbolRecord → SymbolRecord
  | .idle => .idle
  | .candidate p own => .candidate p (own && inTx)
  | .held p n own void => .held p n own void

/-- R48: the word's own mark is cleared by a block outside a transmission. -/
def WordRecord.markBlock (inTx : Bool) (w : WordRecord) : WordRecord :=
  { w with own := w.own && inTx }

/-- R47, R48: the transmitter's report for the block that has ended. -/
def markOwn (inTx : Bool) (s : State) : State :=
  { s with
    rx.symbol := s.rx.symbol.markBlock inTx
    rx.word := s.rx.word.map (·.markBlock inTx) }

/-! ## Delivery -/

/-- R50: a valid word, not own, from this station's own code. -/
def isClash (own : Bool) (w : LineWord) (s : State) : Bool := !own && decide (ownCode s = some w.src)

/-- R49: the word is not own and addressed to this station. -/
def forThisStation (own : Bool) (w : LineWord) (s : State) : Bool :=
  !own && decide (ownCode s = some w.dst)

/-- R49: delivery to the Line View, and to the Answer Unit and the Request Unit of the station addressed. -/
def deliver (own : Bool) (w : LineWord) (o : DeliveryOrder) (s : State) : State :=
  let mine := forThisStation own w s
  inOrder o (viewWord own w) (onlyIf mine (auWord w)) (onlyIf mine (ruWord w)) s

/-- R49 to R51: a valid word: the clash test, and delivery in ordinary service alone. -/
def takeValidWord (own : Bool) (w : LineWord) (o : DeliveryOrder) (s : State) : State :=
  let t := if isClash own w s then setClash s else s
  if inService t then deliver own w o t else t

/-! ## The word stage -/

/-- R43: the record of a word just opened. -/
def openedWord (own : Bool) : WordRecord := ⟨.opening, none, none, none, none, 0, own⟩

/-- R43: the acceptance of ATTN opens a word; a word already in assembly is discarded. -/
def openWord (own : Bool) (s : State) : State := setWord (some (openedWord own)) (breakWord s)

/-- The word that the record's fields make, once all are filled. -/
def WordRecord.word (r : WordRecord) : Option LineWord :=
  match r.kind, r.dst, r.src with
  | some k, some d, some f => some ⟨k, d, f, if k.hasArgument then r.arg else none⟩
  | _, _, _ => none

/-- R46: the check symbol is placed: the record is removed and the word tested. -/
def completeWord (r : WordRecord) (check : Code) (o : DeliveryOrder) (s : State) : State :=
  let t := setWord none s
  match r.word with
  | some w => if wordValid w check then takeValidWord r.own w o t else setBrokenWord t
  | none => setBrokenWord t

/-- R44: the place after the from-code. -/
def placeAfterCodes (k : Option Kind) : Place :=
  match k with
  | some k => if k.hasArgument then .argument else .check
  | none => .check

/-- R44: the record with a symbol in its place, where it fits; the check symbol is `completeWord`'s. -/
def WordRecord.fill (r : WordRecord) (index : Nat) : Option WordRecord :=
  match r.place with
  | .opening => if index = attnIndex then some { r with place := .kind, gap := 0 } else none
  | .kind =>
    (kindOfIndex index).map (fun k => { r with kind := some k, place := .toCode, gap := 0 })
  | .toCode =>
    (digitOfIndex index).map (fun d => { r with dst := some d, place := .fromCode, gap := 0 })
  | .fromCode =>
    (digitOfIndex index).map
      (fun d => { r with src := some d, place := placeAfterCodes r.kind, gap := 0 })
  | .argument =>
    (digitOfIndex index).map (fun d => { r with arg := some d, place := .check, gap := 0 })
  | .check => none

/-- R44: a symbol at place CHECK. -/
def placeCheck (r : WordRecord) (index : Nat) (o : DeliveryOrder) (s : State) : State :=
  match digitOfIndex index with
  | some d => completeWord r d o s
  | none => breakWord s

/-- R44: an emitted symbol is placed, breaks the word, or is a stray. -/
def placeSymbol (index : Nat) (o : DeliveryOrder) (s : State) : State :=
  match s.rx.word with
  | none => s
  | some r =>
    if r.place = .check then placeCheck r index o s
    else
      match r.fill index with
      | some filled => setWord (some filled) s
      | none => breakWord s

/-- R45: a silent block of the word in assembly. -/
def WordRecord.silentBlock (r : WordRecord) : WordRecord :=
  if r.place = .opening then r else { r with gap := r.gap + 1 }

/-- R45: a silent block; a gap count of 6 is left due for GAP_LIMIT. -/
def countSilent (s : State) : State := setWord (s.rx.word.map (·.silentBlock)) s

/-! ## The symbol stage -/

/-- R41, R42: the length at which a held symbol has reached its limit. -/
def lengthLimit (p : Pair) : Nat := if p = attnPair then 51 else 7

/-- R36: the acceptance of a symbol. -/
def acceptSymbol (p : Pair) (own : Bool) (s : State) : State :=
  let t := setSymbol (.held p 2 own false) s
  if p = attnPair then openWord own t else t

/-- R36, R41, R42: a held symbol goes on; void, it is not counted. -/
def extendSymbol (p : Pair) (n : Nat) (own void : Bool) (s : State) : State :=
  if void then s else setSymbol (.held p (min (lengthLimit p) (n + 1)) own void) s

/-- R36, R38: a PAIR decision. The marks have been brought up to date by `markOwn`. -/
def takePair (p : Pair) (inTx : Bool) (s : State) : State :=
  match s.rx.symbol with
  | .idle => setSymbol (.candidate p inTx) s
  | .candidate q own => if q = p then acceptSymbol p own s else setSymbol (.candidate p inTx) s
  | .held q n own void =>
    if q = p then extendSymbol p n own void s else setSymbol (.candidate p inTx) (breakWord s)

/-- R37: a held symbol closes. -/
def closeSymbol (p : Pair) (void : Bool) (o : DeliveryOrder) (s : State) : State :=
  let t := setSymbol .idle s
  if void then t else placeSymbol p.index o t

/-- R37: a SILENT or NOISE decision. -/
def takeSilence (o : DeliveryOrder) (s : State) : State :=
  match s.rx.symbol with
  | .idle | .candidate _ _ => countSilent (setSymbol .idle s)
  | .held p _ _ void => closeSymbol p void o s

/-- R35 to R48: the receiver takes a decision with the transmitter's report for the block. -/
def rxDecide (d : Decision) (inTx : Bool) (o : DeliveryOrder) (s : State) : State :=
  let t := markOwn inTx s
  match d with
  | .pair p => takePair p inTx (setUnusable 0 t)
  | .silent | .noise => takeSilence o (setUnusable 0 t)
  | .overlap => setSymbol .idle (breakWord (setUnusable 0 t))
  | .unusable => setUnusable (t.rx.unusable + 1) t

/-! ## The limits -/

/-- UNUSABLE_LIMIT is due (R39): the third in a row. -/
def unusableDue (s : State) : Bool := decide (3 ≤ s.rx.unusable)

/-- R39: the third UNUSABLE in a row. -/
def takeUnusableLimit (s : State) : State :=
  setUnusable 0 (setSymbol .idle (breakWord s))

/-- A held symbol, not void, has reached this limit. -/
def heldTo (isAttn : Bool) (limit : Nat) (s : State) : Bool :=
  match s.rx.symbol with
  | .held p n _ void => !void && decide (limit ≤ n) && (decide (p = attnPair) == isAttn)
  | .idle | .candidate _ _ => false

/-- OVER_LONG_SYMBOL is due (R41). -/
def overLongDue (s : State) : Bool := heldTo false 7 s

/-- STUCK_TONE is due (R42). -/
def stuckDue (s : State) : Bool := heldTo true 51 s

/-- R41, R42: the held symbol is void. -/
def SymbolRecord.voided : SymbolRecord → SymbolRecord
  | .held p n own _ => .held p n own true
  | .idle => .idle
  | .candidate p own => .candidate p own

/-- R41: an over-long symbol. -/
def takeOverLong (s : State) : State := setSymbol s.rx.symbol.voided (breakWord s)

/-- R42: the word opened by the stuck ATTN is removed. -/
def dropOpening (s : State) : State :=
  match s.rx.word with
  | some r => if r.place = .opening then setWord none s else s
  | none => s

/-- R42: a stuck tone. -/
def takeStuckTone (s : State) : State :=
  setSymbol s.rx.symbol.voided (dropOpening (setStuckTone s))

/-- GAP_LIMIT is due (R45). -/
def gapDue (s : State) : Bool :=
  match s.rx.word with
  | some r => decide (6 ≤ r.gap)
  | none => false

/-- R45: the gap limit. -/
def takeGapLimit (s : State) : State := breakWord s

/-- R35: the receiver is idle. -/
def receiverIdle (s : State) : Bool := decide (s.rx.symbol = .idle) && s.rx.word.isNone

end Sys2Proof.Machine
end

