-- ==== Sys2Proof/Machine/Trunk.lean ====
section
/-! DEFINITION. The Trunk Interface of chapter 9 (R148 to R153). -/

namespace Sys2Proof.Machine

/-- The state with the interface replaced. -/
def setTrunk (t : TrunkInterface) (s : State) : State := { s with trunk := t }

/-- R149: the silence count after a reading of TRUNK_RING. -/
def movedSilence (silence : Nat) (ring : Bool) : Nat := if ring then 0 else min 300 (silence + 1)

/-- R149: the reading of TRUNK_RING. -/
def readRing (s : State) : State :=
  setTrunk { s.trunk with silence := movedSilence s.trunk.silence s.pins.trunkRing } s

/-- R150: the code names a farm. -/
def namesFarm (code : Code) : Bool := decide (code ≠ 0) && decide (code ≠ 15)

/-- R150, R167: a rise: the code is latched, the call DEFERRED or REJECTED, a dozing station woken. -/
def takeRise (s : State) : State :=
  let code := s.pins.trunkCode
  let t := wake s
  if namesFarm code then setTrunk { t.trunk with latched := some code, incoming := .deferred } t
  else setBadTrunkCode (setTrunk { t.trunk with latched := some code, incoming := .rejected } t)

/-- R152: the trunk request for the latched code goes on. -/
def offerStands (s : State) : Bool :=
  match s.request.record with
  | some r =>
    r.state.underWay && decide (r.cls = .trunk) && decide (s.trunk.latched = some r.called)
  | none => false

/-- R152: the offer has ended. -/
def endOffer (s : State) : State :=
  if s.trunk.incoming = .offered ∧ offerStands s = false then
    setTrunk { s.trunk with incoming := .done } s
  else s

/-- TRUNK_LAPSE is due (R149, R153). -/
def trunkLapseDue (s : State) : Bool :=
  decide (s.trunk.silence = 300) && decide (s.trunk.incoming ≠ .idle)

/-- R151: the test of a block end stands to be made while the incoming state is DEFERRED. -/
def askTest (s : State) : State :=
  setTrunk { s.trunk with testDue := decide (s.trunk.incoming = .deferred) } s

/-- R151: the test of a block end has been made. -/
def testMade (s : State) : State := setTrunk { s.trunk with testDue := false } s

/-- R149 to R152: the interface at a block end. It works on the trunk-end station alone; in setup mode it only reads (R157). A lapse is left for TRUNK_LAPSE, and comes before the tests of R151 and R152; the test of R151 is left for ORIGINATE. -/
def trunkBlock (s : State) : State :=
  if isTrunkEnd s then
    let t := readRing s
    if t.link.setupMode then t
    else
      let u := if !trunkPresent s && trunkPresent t then takeRise t else t
      if trunkLapseDue u then u else askTest (endOffer u)
  else s

/-- R151: the trunk is free. -/
def trunkFree (s : State) : Bool :=
  !s.out.trunkConnect && recordNone s && slotEmpty s && s.view.record.isFree

/-- R146, R151: the code that the test of this block end offers and the Request Unit takes, if one. -/
def offerableCode (s : State) : Option Code :=
  match s.trunk.latched with
  | some x =>
    if s.trunk.incoming = .deferred ∧ s.trunk.testDue = true ∧ trunkFree s = true ∧
        originateTaken x s = true then some x
    else none
  | none => none

/-- ORIGINATE is due (R151). A lapse that is due comes first (R149). -/
def originateDue (s : State) : Bool := !trunkLapseDue s && (offerableCode s).isSome

/-- R146, R151: the offer. -/
def takeOriginate (s : State) : State :=
  match offerableCode s with
  | some x => ruOriginate x (setTrunk { s.trunk with incoming := .offered, testDue := false } s)
  | none => s

/-- R153: the lapse, with CANCEL if OFFERED. -/
def takeTrunkLapse (s : State) : State :=
  let t := if s.trunk.incoming = .offered then ruCancel s else s
  setTrunk { t.trunk with incoming := .idle, latched := none, testDue := false } t

/-- R157: the interface at the entry to setup mode. -/
def TrunkInterface.offline (t : TrunkInterface) : TrunkInterface :=
  { t with incoming := .idle, latched := none, testDue := false }

end Sys2Proof.Machine
end

