-- ==== Sys2Proof/Machine/DozeLamp.lean ====
section
/-! DEFINITION. Doze Control (R166) and the Lamp Driver (R168). -/

namespace Sys2Proof.Machine

/-! ## Doze -/

/-- R166: the hook condition. -/
def dozeHook (s : State) : Bool :=
  isTrunkEnd s || (decide (s.dial.hook = .onHook) && decide (s.dial.period = 80))

/-- R166: the transmitter is empty with no back-off. -/
def dozeTransmitter (s : State) : Bool := !s.tx.hasEntry && decide (s.tx.backOff = 0)

/-- R166: voices 2 and 3 are idle. -/
def voicesIdle (s : State) : Bool := s.engine.ear.script.isNone && s.engine.bell.script.isNone

/-- R166: no exchange rings at the trunk-end. -/
def dozeTrunk (s : State) : Bool := !(isTrunkEnd s && trunkPresent s)

/-- R166: all the conditions hold. -/
def dozeConditions (s : State) : Bool :=
  inService s && dozeHook s && slotEmpty s && requestClear s && dozeTransmitter s &&
    voicesIdle s && receiverIdle s && dozeTrunk s

/-- R166: the doze count after a test. -/
def movedDozeCount (holds : Bool) (count : Nat) : Nat := if holds then min 100 (count + 1) else 0

/-- R166: the test at a block end of an awake station. -/
def dozeTest (s : State) : State :=
  { s with doze.count := movedDozeCount (dozeConditions s) s.doze.count }

/-- DOZE_ENTRY is due (R166). -/
def dozeEntryDue (s : State) : Bool := decide (s.doze.count = 100) && !s.doze.dozing

/-- R31, R166: doze begins with block 0 of doze. -/
def takeDozeEntry (s : State) : State :=
  { s with
    doze.dozing := true
    det.mode := .doze 0 }

/-! ## The lamp -/

/-- R168, rank 4: the station is in a call or making one. -/
def lampBusy (s : State) : Bool :=
  isParty s || s.request.pendingBreak.isSome ||
    (match s.request.record with
    | some r => (match r.state with
      | .requesting | .waiting | .reverting => true
      | .failed _ => false)
    | none => false)

/-- R168, rank 5: the last call failed, and the farmer is away. -/
def lampFailed (s : State) : Bool :=
  !s.request.offHook &&
    (match s.request.record with
    | some r => (match r.state with
      | .failed _ => true
      | .requesting | .waiting | .reverting => false)
    | none => false)

/-- R168: the pattern of the first condition that holds. -/
def chosenPattern (s : State) : LampPattern :=
  if s.link.setupMode then .steady
  else if !isActive s then .fastFlash
  else if s.conds.clash then .doubleFlash
  else if lampBusy s then .steady
  else if lampFailed s then .tripleFlash
  else if heldByOthers s then .slowFlash
  else .off

/-- R168: the length of a pattern's cycle in ticks. -/
def LampPattern.cycle : LampPattern → Nat
  | .off | .steady => 1
  | .fastFlash => 25
  | .doubleFlash | .tripleFlash => 200
  | .slowFlash => 100

/-- R168: the lamp is on at this tick of the cycle. -/
def LampPattern.lit (p : LampPattern) (phase : Nat) : Bool :=
  match p with
  | .off => false
  | .steady => true
  | .fastFlash => decide (phase < 12)
  | .doubleFlash => decide (phase < 10 ∨ 20 ≤ phase ∧ phase < 30)
  | .tripleFlash => decide (phase < 10 ∨ 20 ≤ phase ∧ phase < 30 ∨ 40 ≤ phase ∧ phase < 50)
  | .slowFlash => decide (phase < 50)

/-- R168: the lamp at a tick, given the pattern chosen. -/
def Lamp.next (l : Lamp) (p : LampPattern) : Lamp :=
  let phase := if p = l.pattern then (l.phase + 1) % p.cycle else 0
  ⟨p, phase, p.lit phase⟩

/-- R168: the lamp is refreshed. -/
def refreshLamp (s : State) : State := { s with lamp := s.lamp.next (chosenPattern s) }

end Sys2Proof.Machine
end

