-- ==== Sys2Proof/Config.lean ====
section
/-! DEFINITION. The free values: what the manual bounds but does not fix. They have no body, so a statement about them holds for every choice. -/

namespace Sys2Proof

/-- R159: power fails in an erase. For the draw with this number, whether the cell with this index keeps its old value (true) or reads 0xFF (false). Log 9. -/
opaque Config.eraseCutKeeps : Nat → Nat → Bool

/-- R160: power fails in a cell write. For the draw with this number, whether the cell took its value (true) or reads 0xFF (false). Log 9. -/
opaque Config.writeCutTook : Nat → Bool

end Sys2Proof
end

