-- ==== Sys2Proof/Machine/StartUp.lean ====
section
/-! DEFINITION. The supply, the resets and the store's work: an erase or a write completed or cut short (R159, R160), the start-up of R161, the supply's fall. -/

namespace Sys2Proof.Machine

/-! ## The store -/

/-- R159: the page of an erase cut short: cell 8 is erased, and each other cell keeps its value or is erased. -/
def Page.cutErase (p : Page) (keeps : Nat → Bool) : Page :=
  let cell (n : Nat) (v : Byte) : Byte := if keeps n then v else 0xFF
  ⟨cell 0 p.c0, cell 1 p.c1, cell 2 p.c2, cell 3 p.c3, cell 4 p.c4, cell 5 p.c5, cell 6 p.c6,
    cell 7 p.c7, 0xFF⟩

/-- R160: the page of a write cut short: the cell took its value, or is erased. -/
def Page.cutWrite (p : Page) (n : Nat) (v : Byte) (took : Bool) : Page :=
  p.set n (if took then v else 0xFF)

/-- R159, R160: the supply interrupts an erase or a write; what the cells hold is a free value (log 9). -/
def cutShort (s : State) : State :=
  match s.store.op with
  | .idle => s
  | .erasing _ =>
    { s with
      store := ⟨s.store.page.cutErase (Config.eraseCutKeeps s.draws), .idle⟩
      draws := s.draws + 1 }
  | .writing n v _ =>
    { s with
      store := ⟨s.store.page.cutWrite n v (Config.writeCutTook s.draws), .idle⟩
      draws := s.draws + 1 }

/-- R159: the erase ends: all nine cells read 0xFF, cells 0 to 7 from now on (log 50). -/
def takeEraseComplete (s : State) : State :=
  match s.store.op with
  | .erasing _ => { s with store := ⟨.erased, .idle⟩ }
  | .idle | .writing .. => s

/-- R160: the write ends: the cell holds its value, from now on (log 50). -/
def takeWriteComplete (s : State) : State :=
  match s.store.op with
  | .writing n v _ => { s with store := ⟨s.store.page.set n v, .idle⟩ }
  | .idle | .erasing _ => s

/-- The time of the erase or the write is over (R159, R160, log 24). -/
def storeTimeOver (s : State) : Bool :=
  match s.store.op with
  | .idle => false
  | .erasing left | .writing _ _ left => decide (left = 0)

/-- R159, R160: one sample less of the erase or the write (log 24). -/
def StoreOp.sample : StoreOp → StoreOp
  | .idle => .idle
  | .erasing left => .erasing (left - 1)
  | .writing n v left => .writing n v (left - 1)

/-! ## The resets -/

/-- R161, R162: what a restart keeps of the Setup Link. -/
def SetupLink.restarted (l : SetupLink) : SetupLink :=
  { SetupLink.reset with powerOn := l.powerOn, windowDue := l.windowDue }

/-- R161: a power-on reset (`cold`) or a restart. A restart keeps the condition set and the power-on count; both keep the page. -/
def startUp (cold : Bool) (s : State) : State :=
  { State.reset with
    pending := s.pending
    pins := s.pins
    store := s.store
    draws := s.draws
    conds := if cold then .clear else s.conds
    link := if cold then .reset else s.link.restarted
    settings := s.store.page.settings
    dial := .atStart (decide (s.store.page.settings.map (·.code) = some 15)) }

/-- The supply falls: the part stops, and what is not in the store is lost (log 10). -/
def powerDown (s : State) : State :=
  { State.reset with
    pending := s.pending
    powered := false
    pins := s.pins
    store := s.store
    draws := s.draws }

end Sys2Proof.Machine
end

