-- ==== Sys2Proof/Machine/Setup.lean ====
section
/-! DEFINITION. The Setup Link of chapter 10: bytes and commands, their judgement and their replies (R163), the entry to setup mode (R164), leaving it (R165), the power-on count (R162). -/

namespace Sys2Proof.Machine

/-! ## Commands and replies -/

/-- The commands of R163's table, with their arguments, and a byte that names none. -/
inductive SetupCommand where
  | read (n : Byte)
  | enterSetup
  | leaveSetup
  | erase
  | write (n v : Byte)
  | conditions
  | clearConditions
  | stateReport
  | restart
  | bad (b : Byte)
  deriving DecidableEq, Repr

/-- R163: the bytes of a command. -/
def SetupCommand.bytes : SetupCommand → List Byte
  | .read n => [0x10, n]
  | .enterSetup => [0x20]
  | .leaveSetup => [0x21]
  | .erase => [0x30]
  | .write n v => [0x31, n, v]
  | .conditions => [0x40]
  | .clearConditions => [0x41]
  | .stateReport => [0x50]
  | .restart => [0x60]
  | .bad b => [b]

/-- R163: a command of one byte. -/
def oneByteCommand (b : Byte) : Option SetupCommand :=
  if b = 0x20 then some .enterSetup
  else if b = 0x21 then some .leaveSetup
  else if b = 0x30 then some .erase
  else if b = 0x40 then some .conditions
  else if b = 0x41 then some .clearConditions
  else if b = 0x50 then some .stateReport
  else if b = 0x60 then some .restart
  else if b = 0x10 ∨ b = 0x31 then none
  else some (.bad b)

/-- R163: the command that the bytes received complete, if they do. -/
def completedCommand : List Byte → Option SetupCommand
  | [b] => oneByteCommand b
  | [b, n] => if b = 0x10 then some (.read n) else none
  | [b, n, v] => if b = 0x31 then some (.write n v) else none
  | _ => none

/-- The status bytes of R163. -/
inductive Status where
  | ok
  | busy
  | locked
  | used
  | closed
  | badCell
  | badVal
  | refused
  | badCmd
  deriving DecidableEq, Repr

/-- R163: the byte of a status. -/
def Status.byte : Status → Byte
  | .ok => 0x00
  | .busy => 0x01
  | .locked => 0x02
  | .used => 0x03
  | .closed => 0x04
  | .badCell => 0x05
  | .badVal => 0x06
  | .refused => 0x07
  | .badCmd => 0x0F

/-- R163: a reply queued for SETUP_TX: the status and its data. -/
def reply (st : Status) (data : List Byte) (s : State) : State :=
  { s with link.replies := s.link.replies ++ [st.byte :: data] }

/-! ## STATE -/

/-- A code as a byte. -/
def codeByte (c : Code) : Byte := BitVec.ofNat 8 c.val

/-- R88: the view's state byte. -/
def ViewRecord.stateByte : ViewRecord → Byte
  | .free => 0
  | .held .. => 1
  | .broken .. => 2

/-- R88: the bytes of the parties, 0 when absent. -/
def ViewRecord.partyBytes (r : ViewRecord) : List Byte :=
  match r.parties with
  | some (a, b) => [codeByte a, codeByte b]
  | none => [0, 0]

/-- R104: the slot's two bytes. -/
def slotBytes : Option Call → List Byte
  | none => [0, 0]
  | some c =>
    [match c.phase with
      | .ringing _ => 1
      | .answered => 2
      | .delivered => 3
      | .expired => 4,
     codeByte c.caller]

/-- R131: the record's two bytes. -/
def recordBytes : Option Request → List Byte
  | none => [0, 0]
  | some r =>
    [match r.state with
      | .requesting => 1
      | .waiting => 2
      | .reverting => 3
      | .failed _ => 4,
     codeByte r.called]

/-- R71: the lanes' byte. -/
def laneByte (t : Transmitter) : Byte := BitVec.ofNat 8 (t.prompt.length * 16 + t.request.length)

/-- R21: the floor's byte. -/
def floorByte (floor : Nat) : Byte := BitVec.ofNat 8 (floor / 256)

/-- R163: the nine state bytes. -/
def stateBytes (s : State) : List Byte :=
  [s.view.record.stateByte] ++ s.view.record.partyBytes ++ slotBytes s.answer.slot ++
    recordBytes s.request.record ++ [laneByte s.tx, floorByte s.det.floor]

/-! ## Entry to setup mode -/

/-- R162: the entry window is open. -/
def windowOpen (s : State) : Bool := decide (s.link.powerOn < 6000)

/-- R164: ENTER-SETUP would be accepted, from outside setup mode. -/
def entryAccepted (s : State) : Bool := !isActive s || (windowOpen s && slotEmpty s && recordNone s)

/-- R164: the blocks in their offline states. A dozing station wakes (log 22). -/
def goOffline (s : State) : State :=
  { s with
    engine := engineOffline s.engine
    tx := s.tx.offline
    view := s.view.offline
    out.privacy := false
    out.trunkConnect := false
    answer.slot := none
    request.record := none
    request.pendingBreak := none
    dial := s.dial.offline
    trunk := s.trunk.offline
    link.setupMode := true
    doze := ⟨false, 0⟩ }

/-! ## Carrying a command out (R163) -/

/-- R163: a command that a busy store answers BUSY. -/
def unlessBusy (f : State → State) (s : State) : State :=
  if storeBusy s then reply .busy [] s else f s

/-- R163: READ. -/
def judgeRead (n : Byte) (s : State) : State :=
  unlessBusy (fun t =>
    if 8 < n.toNat then reply .badCell [] t else reply .ok [t.store.page.get n.toNat] t) s

/-- R164: ENTER-SETUP. -/
def judgeEnter (s : State) : State :=
  if s.link.setupMode then reply .ok [] s
  else if entryAccepted s then reply .ok [] (goOffline s)
  else reply .refused [] s

/-- R163, R165: the restart awaited once the OK has been sent. -/
def acceptRestart (s : State) : State := reply .ok [] { s with link.awaitRestart := true }

/-- R165: LEAVE-SETUP. -/
def judgeLeave (s : State) : State :=
  unlessBusy (fun t => if t.link.setupMode then acceptRestart t else reply .refused [] t) s

/-- The samples of an erase: 12 ms (R159). -/
def eraseSamples : Nat := 96

/-- The samples of a write: 2 ms (R160). -/
def writeSamples : Nat := 16

/-- R159: an erase starts: cell 8 reads 0xFF at once. Cells 0 to 7 keep their values till the erase ends (DESIGN CHOICE, log 50). -/
def beginErase (s : State) : State :=
  { s with store := ⟨{ s.store.page with c8 := 0xFF }, .erasing eraseSamples⟩ }

/-- R163: ERASE. -/
def judgeErase (s : State) : State :=
  unlessBusy (fun t =>
    if t.link.setupMode then reply .ok [] (beginErase t) else reply .locked [] t) s

/-- R163: the status of a WRITE, by the first row that applies. -/
def writeStatus (n v : Byte) (s : State) : Status :=
  if !s.link.setupMode then .locked
  else if 8 < n.toNat then .badCell
  else if v = 0xFF then .badVal
  else if s.store.page.c8 ≠ 0xFF then .closed
  else if s.store.page.get n.toNat ≠ 0xFF then .used
  else if n = 8 ∧ v ≠ 0xA5 then .badVal
  else .ok

/-- R160: a write starts. The cell keeps its value till the write ends (DESIGN CHOICE, log 50). -/
def beginWrite (n v : Byte) (s : State) : State :=
  { s with store := ⟨s.store.page, .writing n.toNat v writeSamples⟩ }

/-- R163: WRITE. -/
def judgeWrite (n v : Byte) (s : State) : State :=
  unlessBusy (fun t =>
    let st := writeStatus n v t
    reply st [] (if st = .ok then beginWrite n v t else t)) s

/-- R163: CLEAR-CONDITIONS. -/
def judgeClear (s : State) : State := reply .ok [] { s with conds := .clear }

/-- R163: RESTART. -/
def judgeRestart (s : State) : State := unlessBusy acceptRestart s

/-- R163: a complete command carried out. -/
def carryOut (c : SetupCommand) (s : State) : State :=
  match c with
  | .read n => judgeRead n s
  | .enterSetup => judgeEnter s
  | .leaveSetup => judgeLeave s
  | .erase => judgeErase s
  | .write n v => judgeWrite n v s
  | .conditions => reply .ok [s.conds.byte] s
  | .clearConditions => judgeClear s
  | .stateReport => reply .ok (stateBytes s) s
  | .restart => judgeRestart s
  | .bad _ => reply .badCmd [] s

/-! ## Bytes -/

/-- R163: the partial command and its gap timer emptied. R163 says what the timer holds after a reset and after a timeout alone; after a completed command and after a byte with its stop bit low it holds 0 too (DESIGN CHOICE, log 49). -/
def dropPartial (s : State) : State :=
  { s with
    link.partialCmd := []
    link.gap := 0 }

/-- A complete command stands in the partial command, not yet carried out (log 23); while a restart is awaited none is. -/
def commandDue (s : State) : Bool :=
  !s.link.awaitRestart && (completedCommand s.link.partialCmd).isSome

/-- R163: the complete command is carried out. -/
def takeCommand (s : State) : State :=
  match completedCommand s.link.partialCmd with
  | some c => carryOut c (dropPartial s)
  | none => s

/-- SETUP_GAP_TIMEOUT is due (R163). -/
def gapTimeoutDue (s : State) : Bool := !s.link.partialCmd.isEmpty && decide (s.link.gap = 0)

/-- R163: one byte received. A byte after the OK to RESTART or LEAVE-SETUP is discarded. -/
def takeByte (b : Byte) (stopHigh : Bool) (s : State) : State :=
  if s.link.awaitRestart then s
  else if stopHigh then
    { s with
      link.partialCmd := s.link.partialCmd ++ [b]
      link.gap := 10 }
  else dropPartial s

/-- Part of the command may have been received as bytes before the command's own step (log 23). -/
def partOf (c : SetupCommand) (s : State) : Bool := s.link.partialCmd.isPrefixOf c.bytes

/-- R163, R167: the command's remaining bytes are received, which wakes a dozing station, and it is carried out. A byte after the OK to RESTART or LEAVE-SETUP is discarded (log 23). -/
def receiveRest (c : SetupCommand) (s : State) : State :=
  if partOf c s && !s.link.awaitRestart then carryOut c (dropPartial (wake s)) else s

/-! ## Replies -/

/-- SETUP_REPLY_START is due (R163): a reply waits and SETUP_TX is idle. -/
def replyStartDue (s : State) : Bool := s.link.sending.isNone && !s.link.replies.isEmpty

/-- R163: the first reply waiting begins to be sent (log 24). -/
def takeReplyStart (s : State) : State :=
  match s.link.replies with
  | [] => s
  | r :: rest =>
    { s with
      link.replies := rest
      link.sending := some ⟨r, 100 * r.length⟩ }

/-- R163: one sample of the reply being sent (log 24). -/
def Sending.sample (x : Sending) : Option Sending :=
  if x.left ≤ 3 then none else some { x with left := x.left - 3 }

/-- RESTART_AFTER_REPLY is due (R163): the OK has been sent. -/
def restartDue (s : State) : Bool :=
  s.link.awaitRestart && s.link.sending.isNone && s.link.replies.isEmpty

/-! ## Ticks -/

/-- R162: the power-on count at a tick. The rise to 6000 is left for ENTRY_WINDOW_CLOSE at the same tick (log 2). -/
def SetupLink.tickCount (l : SetupLink) : SetupLink :=
  if l.powerOn < 5999 then { l with powerOn := l.powerOn + 1 }
  else if l.powerOn = 5999 then { l with windowDue := true }
  else l

/-- R162, R163: the gap timer and the power-on count at a tick. -/
def tickLink (s : State) : State :=
  { s with link := { s.link.tickCount with gap := s.link.gap - 1 } }

/-- R162: the entry window closes. -/
def takeWindowClose (s : State) : State :=
  { s with
    link.powerOn := 6000
    link.windowDue := false }

end Sys2Proof.Machine
end

