-- ==== Sys2Proof/Machine/Settle.lean ====
section
/-! DEFINITION. The steps that stand due (log 2): each is taken by its own command, or, before time goes on, by `settle` in a fixed order. -/

namespace Sys2Proof.Machine

/-- Take a step when it is due. -/
def whenDue (due : State → Bool) (take : State → State) (s : State) : State :=
  if due s then take s else s

/-- Take a step when it is due, and the events it raises. -/
def whenDueFinish (due : State → Bool) (take : State → State) (s : State) : State :=
  if due s then finish (take s) else s

/-! ## Each step that can stand due -/

/-- LINE_IDLE (R95). -/
def settleLineIdle (s : State) : State := whenDueFinish lineIdleDue freeView s

/-- UNUSABLE_LIMIT (R39). -/
def settleUnusable (s : State) : State := whenDue unusableDue takeUnusableLimit s

/-- OVER_LONG_SYMBOL (R41). -/
def settleOverLong (s : State) : State := whenDue overLongDue takeOverLong s

/-- STUCK_TONE (R42). -/
def settleStuck (s : State) : State := whenDue stuckDue takeStuckTone s

/-- GAP_LIMIT (R45). -/
def settleGapLimit (s : State) : State := whenDue gapDue takeGapLimit s

/-- CHECKED_ATTEMPT_START (R76). -/
def settleStart (s : State) : State := whenDue checkedStartDue takeStart s

/-- TALK_OVER (R77, R79). -/
def settleTalkOver (s : State) : State := whenDue talkOverDue (startAttempt .prompt false) s

/-- REQUEST_WAIT_LIMIT (R77). -/
def settleRequestWait (s : State) : State := whenDueFinish requestWaitDue takeRequestWaitLimit s

/-- BACK_OFF_END is due (R81). -/
def backOffDue (s : State) : Bool := s.tx.backOffDue

/-- BACK_OFF_END (R81). -/
def settleBackOff (s : State) : State := whenDue backOffDue takeBackOffEnd s

/-- SCRIPT_STEP_END (R57). -/
def settleScript (v : ScriptVoice) (s : State) : State :=
  whenDue (scriptStepDue v) (takeScriptStep v) s

/-- HANG_UP (R126). -/
def settleHangUp (o : DeliveryOrder) (s : State) : State := whenDue hangUpDue (takeHangUp o) s

/-- HOOK_DEBOUNCED_CHANGE (R126). -/
def settleHookChange (o : DeliveryOrder) (s : State) : State :=
  whenDue hookChangeDue (takeHookChange o) s

/-- PULSE (R128). -/
def settlePulse (s : State) : State := whenDue pulseDue takePulse s

/-- INVALID_DIGIT (R128). -/
def settleInvalidDigit (s : State) : State := whenDue invalidDigitDue takeInvalidDigit s

/-- DIGIT_END (R128). -/
def settleDigitEnd (s : State) : State := whenDue digitEndDue takeDigitEnd s

/-- BARRED_RELEASE (R128). -/
def settleBarredRelease (s : State) : State := whenDue barredReleaseDue takeBarredRelease s

/-- DIGIT_WAIT_EXPIRY (R129). -/
def settleDigitWait (s : State) : State := whenDue digitWaitDue takeDigitWait s

/-- COMPLETION_HOLD_EXPIRY (R116). -/
def settleCompletionHold (s : State) : State := whenDueFinish completionHoldDue takeCompletionHold s

/-- LINGER_EXPIRY (R117). -/
def settleLinger (s : State) : State := whenDueFinish lingerDue takeLinger s

/-- POLL_LOSS_EXPIRY (R118). -/
def settlePollLoss (s : State) : State := whenDueFinish pollLossDue takePollLoss s

/-- RING_REPLY_EXPIRY (R135). -/
def settleRingReply (s : State) : State := whenDueFinish ringReplyDue takeRingReply s

/-- DELAY_EXPIRY (R137). -/
def settleDelay (s : State) : State := whenDueFinish delayDue takeDelay s

/-- POLL_REPLY_EXPIRY (R137). -/
def settlePollReply (s : State) : State := whenDueFinish pollReplyDue takePollReply s

/-- REVERT_EXPIRY (R141). -/
def settleRevert (s : State) : State := whenDueFinish revertDue takeRevert s

/-- SHOW_EXPIRY (R143). -/
def settleShow (s : State) : State := whenDueFinish showExpired takeShow s

/-- ORIGINATE (R151). -/
def settleOriginate (s : State) : State := whenDueFinish originateDue takeOriginate s

/-- R151: the test of this block end, made: an offer, or none until the next block end. -/
def settleTest (s : State) : State := testMade (settleOriginate s)

/-- TRUNK_LAPSE (R153). -/
def settleTrunkLapse (s : State) : State := whenDueFinish trunkLapseDue takeTrunkLapse s

/-- DOZE_ENTRY (R166). -/
def settleDozeEntry (s : State) : State := whenDue dozeEntryDue takeDozeEntry s

/-- A complete command (R163). -/
def settleCommand (s : State) : State := whenDueFinish commandDue takeCommand s

/-- SETUP_GAP_TIMEOUT (R163). -/
def settleGapTimeout (s : State) : State := whenDue gapTimeoutDue dropPartial s

/-- SETUP_REPLY_START (R163). -/
def settleReplyStart (s : State) : State := whenDue replyStartDue takeReplyStart s

/-- RESTART_AFTER_REPLY (R161). -/
def settleRestart (s : State) : State := whenDue restartDue (startUp false) s

/-- ERASE_COMPLETE (R159): the 12 ms of an erase are over. -/
def settleErase (s : State) : State := whenDue storeTimeOver takeEraseComplete s

/-- WRITE_COMPLETE (R160): the 2 ms of a write are over. -/
def settleWrite (s : State) : State := whenDue storeTimeOver takeWriteComplete s

/-- The end of the store's work at a boundary. -/
def settleStore (s : State) : State := settleWrite (settleErase s)

/-- ENTRY_WINDOW_CLOSE is due (R162). -/
def windowCloseDue (s : State) : Bool := s.link.windowDue

/-- ENTRY_WINDOW_CLOSE (R162). -/
def settleWindowClose (s : State) : State := whenDue windowCloseDue takeWindowClose s

/-! ## All of them -/

/-- The order of deliveries where no operand gives one (log 6). -/
def fixedOrder : DeliveryOrder := .viewAnswerRequest

/-- R163: the command or the gap timeout that stands due on the bytes received so far. -/
def settleBytes (s : State) : State := settleGapTimeout (settleCommand s)

/-- R163: a whole command arrives. Bytes that complete this very command are carried out; a different command or a gap timeout that stands due is taken before the remaining bytes are received (log 23). -/
def arriveCommand (c : SetupCommand) (s : State) : State :=
  if s.link.partialCmd = c.bytes then settleCommand s
  else finish (receiveRest c (settleBytes s))

/-- The steps due on the setup link at a boundary. -/
def settleLink (s : State) : State := settleBytes (settleWindowClose s)

/-- The steps due in the local telephone at a boundary. -/
def settleLocal (s : State) : State :=
  settleDigitWait (settleBarredRelease (settleDigitEnd (settlePulse (settleInvalidDigit
    (settleHookChange fixedOrder (settleHangUp fixedOrder
      (settleScript .ringer (settleScript .earpiece s))))))))

/-- The steps due in the receiver at a boundary. -/
def settleReceiver (s : State) : State :=
  settleGapLimit (settleStuck (settleOverLong (settleUnusable s)))

/-- The slot's expiries due at a boundary. -/
def settleSlot (s : State) : State := settlePollLoss (settleLinger (settleCompletionHold s))

/-- The request record's expiries due at a boundary. -/
def settleRecord (s : State) : State :=
  settleShow (settleRevert (settlePollReply (settleDelay (settleRingReply s))))

/-- The steps due in the view, the slot, the record and the Trunk Interface at a boundary, in that order (DESIGN CHOICE, log 46). -/
def settleCalls (s : State) : State :=
  settleTest (settleTrunkLapse (settleRecord (settleSlot (settleLineIdle s))))

/-- The steps due in the transmitter at a boundary. -/
def settleTransmitter (s : State) : State :=
  settleRequestWait (settleTalkOver (settleStart (settleBackOff s)))

/-- The steps due in the store and on SETUP_TX at a boundary. -/
def settleReplies (s : State) : State := settleReplyStart (settleStore s)

/-- Every step that stands due but a restart, before time goes on (log 2). -/
def settleButRestart (s : State) : State :=
  settleReplies (settleDozeEntry (settleTransmitter (settleCalls (settleReceiver
    (settleLocal (settleLink s))))))

/-- Every step that stands due, a restart last (log 2). -/
def settle (s : State) : State := settleRestart (settleButRestart s)

end Sys2Proof.Machine
end

