-- ==== Sys2Proof/Machine/CallCommands.lean ====
section
/-! DEFINITION. The meanings of the expiries of the slot and the request record, and of the Trunk Interface's steps. -/

namespace Sys2Proof.Machine

/-- COMPLETION_HOLD_EXPIRY (R116). -/
def execCompletionHoldExpiry (s : State) : Host.Outcome State Fault Refusal :=
  act settleCompletionHold s

/-- LINGER_EXPIRY (R117). -/
def execLingerExpiry (s : State) : Host.Outcome State Fault Refusal :=
  act settleLinger s

/-- POLL_LOSS_EXPIRY (R118). -/
def execPollLossExpiry (s : State) : Host.Outcome State Fault Refusal :=
  act settlePollLoss s

/-- RING_REPLY_EXPIRY (R135). -/
def execRingReplyExpiry (s : State) : Host.Outcome State Fault Refusal :=
  act settleRingReply s

/-- DELAY_EXPIRY (R137). -/
def execDelayExpiry (s : State) : Host.Outcome State Fault Refusal :=
  act settleDelay s

/-- POLL_REPLY_EXPIRY (R137). -/
def execPollReplyExpiry (s : State) : Host.Outcome State Fault Refusal :=
  act settlePollReply s

/-- REVERT_EXPIRY (R141). -/
def execRevertExpiry (s : State) : Host.Outcome State Fault Refusal :=
  act settleRevert s

/-- SHOW_EXPIRY (R143). -/
def execShowExpiry (s : State) : Host.Outcome State Fault Refusal :=
  act settleShow s

/-- ORIGINATE (R151, R146). -/
def execOriginate (s : State) : Host.Outcome State Fault Refusal :=
  act settleOriginate s

/-- TRUNK_LAPSE (R153). -/
def execTrunkLapse (s : State) : Host.Outcome State Fault Refusal :=
  act settleTrunkLapse s

end Sys2Proof.Machine
end

