-- ==== Sys2Proof/Machine/Detection.lean ====
section
/-! DEFINITION. The Band Detector's arithmetic of chapter 2: filters, energies, total, threshold, the block decision, the noise floor and the attention test. Lean's division of integers by a positive number is the floor. Values are exact integers, since R34 bounds every one inside the part's registers (log 25). -/

namespace Sys2Proof.Machine

/-! ## Banks of eight -/

/-- Apply a function to every tone's value. -/
def Bank.map {α β : Type} (f : α → β) (b : Bank α) : Bank β :=
  ⟨f b.t0, f b.t1, f b.t2, f b.t3, f b.t4, f b.t5, f b.t6, f b.t7⟩

/-- Combine two banks tone by tone. -/
def Bank.zip {α β γ : Type} (f : α → β → γ) (a : Bank α) (b : Bank β) : Bank γ :=
  ⟨f a.t0 b.t0, f a.t1 b.t1, f a.t2 b.t2, f a.t3 b.t3, f a.t4 b.t4, f a.t5 b.t5, f a.t6 b.t6,
    f a.t7 b.t7⟩

/-- The values in tone order, each with its tone. -/
def Bank.list {α : Type} (b : Bank α) : List (Tone × α) :=
  [(0, b.t0), (1, b.t1), (2, b.t2), (3, b.t3), (4, b.t4), (5, b.t5), (6, b.t6), (7, b.t7)]

/-! ## Filters, energies and total -/

/-- R16: the product rounded to the nearest integer, halves towards plus infinity. -/
def roundedProduct (c s : Int) : Int := (c * s + 8192) / 16384

/-- R16: one sample through a filter, s_n = x_n + rounded product − s_{n−2}. -/
def filterStep (c x : Int) (f : FilterState) : FilterState :=
  ⟨x + roundedProduct c f.s1 - f.s2, f.s1⟩

/-- R17: the band energy from a filter's two last states; a negative numerator gives 0. -/
def bandEnergy (c : Int) (f : FilterState) : Nat :=
  ((f.s1 * f.s1 + f.s2 * f.s2 - (c * f.s1 * f.s2 + 8192) / 16384) / 65536).toNat

/-- R17: the eight energies of a block. -/
def bandEnergies (filters : Bank FilterState) : Bank Nat := toneCoeffs.zip bandEnergy filters

/-- R18: the total Q. -/
def totalEnergy (sumSq : Nat) : Nat := 5 * sumSq / 4096

/-- R19: the sample is one of the converter's two end values. -/
def isClipped (x : Int) : Bool := x == -2048 || x == 2047

/-- R22: the threshold T from the floor F and the sensitivity. -/
def threshold (floor sensitivity : Nat) : Nat := floor * (12 - sensitivity) / 2

/-! ## The noise floor -/

/-- R21: the clamp of F. -/
def clampFloor (f : Int) : Nat := if f < 16 then 16 else if 65535 < f then 65535 else f.toNat

/-- R24, R28: F moved towards Q by the given fraction, floor towards minus infinity, and clamped. -/
def moveFloor (floor q fraction : Nat) : Nat :=
  clampFloor ((floor : Int) + ((q : Int) - (floor : Int)) / (fraction : Int))

/-- R21: F after a full-rate decision. -/
def floorAfter (floor q : Nat) : Decision → Nat
  | .silent => moveFloor floor q 16
  | .noise => moveFloor floor q 256
  | .pair _ | .overlap | .unusable => floor

/-! ## The decision -/

/-- Put a tone into a list ranked from largest to smallest energy, behind every tone whose energy is not smaller. -/
def insertRanked (x : Tone × Nat) : List (Tone × Nat) → List (Tone × Nat)
  | [] => [x]
  | y :: ys => if x.2 ≤ y.2 then y :: insertRanked x ys else x :: y :: ys

/-- R25: the tones ranked by energy, the lower index first among equals. -/
def rankTones (e : Bank Nat) : List (Tone × Nat) :=
  e.list.foldl (fun ranked x => insertRanked x ranked) []

/-- R26: the number of strong tones. -/
def strongCount (e : Bank Nat) (q : Nat) : Nat :=
  (e.list.filter (fun x => decide (q / 8 ≤ x.2))).length

/-- R27: the twist, third-tone and purity tests. -/
def pairTests (ea eb ec q : Nat) : Bool :=
  decide (1 ≤ eb) && decide (ea ≤ 4 * eb) && decide (8 * ec ≤ eb) &&
    decide (3 * q ≤ 4 * (ea + eb))

/-- R27: the pair of two tones, the lower index first. -/
def pairOfTones (a b : Tone) : Pair := if a ≤ b then ⟨a, b⟩ else ⟨b, a⟩

/-- R27, R28: the pair tests on the ranking, and NOISE when one fails. -/
def pairDecision (ranked : List (Tone × Nat)) (q : Nat) : Decision :=
  match ranked with
  | a :: b :: c :: _ =>
    if pairTests a.2 b.2 c.2 q then .pair (pairOfTones a.1 b.1) else .noise
  | _ => .noise

/-- R23 to R28: the decision of a full-rate block, the tests in their order. -/
def blockDecision (lenient : Bool) (clips q t : Nat) (e : Bank Nat) : Decision :=
  if 4 ≤ clips ∧ lenient = false then .unusable
  else if q < t then .silent
  else if 3 ≤ strongCount e q then .overlap
  else pairDecision (rankTones e) q

/-- R32: the attention test of an evaluated doze block. -/
def attentionTest (lenient : Bool) (clips q t e2 e6 : Nat) : Bool :=
  !(decide (4 ≤ clips) && !lenient) && decide (t ≤ q) && decide (e2 ≤ 4 * e6) &&
    decide (e6 ≤ 4 * e2) && decide (3 * q ≤ 4 * (e2 + e6))

end Sys2Proof.Machine
end

