-- ==== Sys2Proof/Machine/Clock.lean ====
section
/-! DEFINITION. The station's clocks: one sample (R13, R16, R53), one tick (R57), one block end (R14). -/

namespace Sys2Proof.Machine

/-! ## Tick -/

/-- The pins HOOK and DIAL as presented. -/
def presentContacts (hookClosed dialClosed : Bool) (s : State) : State :=
  { s with
    pins.hookClosed := hookClosed
    pins.dialClosed := dialClosed }

/-- R57: the tick's frame starts again. -/
def newTick (s : State) : State := { s with frame.tickPos := 0 }

/-- R57: the tick's work, in the fixed order of log 2: voices, hook, dial, link, lamp. DIAL is read and the digit wait falls before a change of the hook state at the same tick is taken (DESIGN CHOICE, log 44). -/
def tickWork (s : State) : State :=
  refreshLamp (tickLink (tickDial (tickHook (finish
    (tickVoice .ringer (tickVoice .earpiece s))))))

/-- R14, R57, R161: a boundary of the framing. The steps due are taken and the pins presented; then a restart that is due starts the framing afresh, and otherwise the boundary's work is done. -/
def atBoundary (present work : State → State) (s : State) : State :=
  let t := present (settleButRestart s)
  if restartDue t then startUp false t else work t

/-- TICK is due (R57): 80 samples of the tick have been taken. -/
def tickDue (s : State) : Bool := decide (80 ≤ s.frame.tickPos)

/-- R57: the 10 ms tick, once its samples are taken (log 3). -/
def takeTick (hookClosed dialClosed : Bool) (s : State) : State :=
  whenDue tickDue
    (atBoundary (presentContacts hookClosed dialClosed) (fun t => newTick (finish (tickWork t)))) s

/-! ## Block end -/

/-- The pins read with a block's sample 159, as presented. -/
def presentLine (lineLoaded trunkRing : Bool) (trunkCode : Code) (s : State) : State :=
  { s with
    pins.lineLoaded := lineLoaded
    pins.trunkRing := trunkRing
    pins.trunkCode := trunkCode }

/-- R47, R84: the block that ends lay within a transmission of this station. -/
def blockInTx (s : State) : Bool := s.tx.attempt.isSome || s.tx.cutBlock

/-- R22: the threshold in force. -/
def thresholdOf (s : State) : Nat := threshold s.det.floor (sensitivityOf s)

/-- R23: the decision of the full-rate block that has ended. -/
def decisionOf (s : State) : Decision :=
  blockDecision (lenientOf s) s.det.clips (totalEnergy s.det.sumSq) (thresholdOf s)
    (bandEnergies s.det.filters)

/-- R21: F moved by a decision. -/
def moveF (d : Decision) (s : State) : State :=
  { s with det.floor := floorAfter s.det.floor (totalEnergy s.det.sumSq) d }

/-- R29: the receiver takes the decision. -/
def receive (d : Decision) (inTx : Bool) (o : EndOrder) (s : State) : State :=
  finish (rxDecide d inTx o.delivery s)

/-- R29: the transmitter takes the decision. -/
def transmit (d : Decision) (s : State) : State := finish (txDecide d s)

/-- R29: the decision handed to the receiver and to the transmitter. -/
def handOn (d : Decision) (inTx : Bool) (o : EndOrder) (s : State) : State :=
  if o.txFirst then receive d inTx o (transmit d s) else transmit d (receive d inTx o s)

/-- R14 to R29: the end of a full-rate block. -/
def fullBlockEnd (inTx : Bool) (o : EndOrder) (s : State) : State :=
  let d := decisionOf s
  handOn d inTx o (moveF d (noteOverdrive s))

/-- R32: the block that has ended passes the attention test. -/
def attentionPassed (s : State) : Bool :=
  attentionTest (lenientOf s) s.det.clips (totalEnergy s.det.sumSq) (thresholdOf s)
    (bandEnergies s.det.filters).t2 (bandEnergies s.det.filters).t6

/-- R31 to R33: the end of a doze block; blocks 0, 4, 8, … are evaluated. -/
def dozeBlockEnd (number : Nat) (s : State) : State :=
  if number % 4 = 0 then
    let t := noteOverdrive s
    if attentionPassed t then wake t else t
  else s

/-- R14: the block that has ended is decided or doze-tested. -/
def decideBlock (inTx : Bool) (o : EndOrder) (s : State) : State :=
  match s.det.mode with
  | .full => fullBlockEnd inTx o s
  | .doze n => dozeBlockEnd n s

/-- R95: the reading and the step it may make due. -/
def idleNow (s : State) : State := settleLineIdle (viewReading s.pins.lineLoaded s)

/-- R95: the reading alone; LINE_IDLE stays due. -/
def idleLater (s : State) : State := viewReading s.pins.lineLoaded s

/-- R106, R131: the timers of the slot and the record. -/
def lineTimers (s : State) : State := tickRecord (tickSlot s)

/-- R149 to R153: the interface at a block end, its lapse and its test taken there (log 6). -/
def trunkNow (s : State) : State := settleTest (settleTrunkLapse (trunkBlock s))

/-- The events that the order operand puts before the decision (log 6); among those so put the order is line idle, slot, record, Trunk Interface (DESIGN CHOICE, log 46). -/
def beforeDecision (o : EndOrder) (s : State) : State :=
  onlyIf o.trunkFirst trunkNow (onlyIf o.recordFirst settleRecord
    (onlyIf o.slotFirst settleSlot (onlyIf o.idleFirst idleNow s)))

/-- The events that the order operand puts after the decision, line idle's reading first (DESIGN CHOICE, log 46); expiries stay due (log 6). -/
def afterDecision (o : EndOrder) (s : State) : State :=
  onlyIf (!o.trunkFirst) trunkBlock (onlyIf (!o.idleFirst) idleLater s)

/-- R31, R33: how the next block is measured. -/
def nextMode (dozing : Bool) (m : DetectorMode) : DetectorMode :=
  match m with
  | .doze n => if dozing then .doze ((n + 1) % 4) else .full
  | .full => if dozing then .doze 0 else .full

/-- R14: the next block begins. -/
def newBlock (s : State) : State :=
  { s with
    frame.pos := 0
    det.filters := .const ⟨0, 0⟩
    det.sumSq := 0
    det.clips := 0
    det.mode := nextMode s.doze.dozing s.det.mode
    tx.cutBlock := false }

/-- R14, R29, R95, R106, R131, R166: the work of a block end. The doze test is made when the station was awake (log 20). -/
def blockWork (o : EndOrder) (s : State) : State :=
  let t := afterDecision o (decideBlock (blockInTx s) o (beforeDecision o (lineTimers s)))
  newBlock (onlyIf (!s.doze.dozing) dozeTest (finish t))

/-- BLOCK_END is due (R14): the block's sample 159 has been taken. -/
def blockDue (s : State) : Bool := decide (160 ≤ s.frame.pos)

/-- R14: the end of a block, once its samples are taken (log 3). -/
def takeBlockEnd (lineLoaded trunkRing : Bool) (trunkCode : Code) (o : EndOrder) (s : State) :
    State :=
  whenDue blockDue (atBoundary (presentLine lineLoaded trunkRing trunkCode) (blockWork o)) s

/-! ## Sample -/

/-- R16: every filter takes the sample. -/
def runAllFilters (x : Int) (b : Bank FilterState) : Bank FilterState :=
  toneCoeffs.zip (fun c f => filterStep c x f) b

/-- R31: the filters of T2 and T6 take the sample. -/
def runDozeFilters (x : Int) (b : Bank FilterState) : Bank FilterState :=
  { b with t2 := filterStep toneCoeffs.t2 x b.t2, t6 := filterStep toneCoeffs.t6 x b.t6 }

/-- R18, R19: the sample enters the sum of squares and the clip count. -/
def Detector.count (d : Detector) (x : Int) : Detector :=
  { d with
    sumSq := d.sumSq + (x * x).toNat
    clips := d.clips + if isClipped x then 1 else 0 }

/-- R13, R16 to R19, R31: the sample taken into the block in progress. -/
def Detector.take (d : Detector) (x : Int) : Detector :=
  match d.mode with
  | .full => { d.count x with filters := runAllFilters x d.filters }
  | .doze n => if n % 4 = 0 then { d.count x with filters := runDozeFilters x d.filters } else d

/-- R14, R57: one sample more of the block and of the tick. -/
def Frame.sample (f : Frame) : Frame := ⟨f.pos + 1, f.tickPos + 1⟩

/-- One sample's time of the store's work and of the reply being sent (log 24). -/
def sampleTime (s : State) : State :=
  { s with
    store.op := s.store.op.sample
    link.sending := s.link.sending.bind Sending.sample }

/-- R13, R53 to R55: a sample in, and a sample out. -/
def sampleWork (x : Int) (s : State) : State :=
  produceOutputs (sampleTime { s with det := s.det.take x, frame := s.frame.sample })

/-- Log 6: the order used for a block end that no command gave. -/
def heldOrder : EndOrder := ⟨false, false, true, false, false, fixedOrder⟩

/-- Log 5: a tick that is over is taken before the next sample, with the contacts as last presented. -/
def overdueTick (s : State) : State := takeTick s.pins.hookClosed s.pins.dialClosed s

/-- Log 5: a block that is over is ended before the next sample, with the pins as last presented. -/
def overdueBlock (s : State) : State :=
  takeBlockEnd s.pins.lineLoaded s.pins.trunkRing s.pins.trunkCode heldOrder s

/-- R13: one sample of the converter. -/
def takeSample (x : Int) (s : State) : State :=
  sampleWork x (settle (overdueBlock (overdueTick s)))

end Sys2Proof.Machine
end

