-- ==== Sys2Proof/Machine/ClockCommands.lean ====
section
/-! DEFINITION. The meanings of the clock commands: LINE_SAMPLE, BLOCK_END, TICK. -/

namespace Sys2Proof.Machine

/-- LINE_SAMPLE (R13): the sample enters the block in progress and the outputs are produced. -/
def execLineSample (x : Int) (s : State) : Host.Outcome State Fault Refusal :=
  act (takeSample x) s

/-- BLOCK_END (R14). -/
def execBlockEnd (lineLoaded trunkRing : Bool) (trunkCode : Code) (order : EndOrder) (s : State) : Host.Outcome State Fault Refusal :=
  act (takeBlockEnd lineLoaded trunkRing trunkCode order) s

/-- TICK (R57). -/
def execTick (hookClosed dialClosed : Bool) (s : State) : Host.Outcome State Fault Refusal :=
  act (takeTick hookClosed dialClosed) s

end Sys2Proof.Machine
end

