-- ==== Sys2Proof/Machine/LineCommands.lean ====
section
/-! DEFINITION. The meanings of the view's and the receiver's own steps, and of the transmitter's. -/

namespace Sys2Proof.Machine

/-- LINE_IDLE (R95): the view becomes FREE. -/
def execLineIdle (s : State) : Host.Outcome State Fault Refusal :=
  act settleLineIdle s

/-- UNUSABLE_LIMIT (R39). -/
def execUnusableLimit (s : State) : Host.Outcome State Fault Refusal :=
  act settleUnusable s

/-- OVER_LONG_SYMBOL (R41). -/
def execOverLongSymbol (s : State) : Host.Outcome State Fault Refusal :=
  act settleOverLong s

/-- STUCK_TONE (R42). -/
def execStuckTone (s : State) : Host.Outcome State Fault Refusal :=
  act settleStuck s

/-- GAP_LIMIT (R45). -/
def execGapLimit (s : State) : Host.Outcome State Fault Refusal :=
  act settleGapLimit s

/-- CHECKED_ATTEMPT_START (R76, R78). -/
def execCheckedAttemptStart (s : State) : Host.Outcome State Fault Refusal :=
  act settleStart s

/-- TALK_OVER (R77, R79). -/
def execTalkOver (s : State) : Host.Outcome State Fault Refusal :=
  act settleTalkOver s

/-- REQUEST_WAIT_LIMIT (R77). -/
def execRequestWaitLimit (s : State) : Host.Outcome State Fault Refusal :=
  act settleRequestWait s

/-- BACK_OFF_END (R81): the transmitter waits again, by R76 and R77. -/
def execBackOffEnd (s : State) : Host.Outcome State Fault Refusal :=
  act settleBackOff s

end Sys2Proof.Machine
end

