-- ==== Sys2Proof/Machine/LocalCommands.lean ====
section
/-! DEFINITION. The meanings of the steps of the cadence scripts, the hookswitch and the dial. -/

namespace Sys2Proof.Machine

/-- SCRIPT_STEP_END (R57). -/
def execScriptStepEnd (voice : ScriptVoice) (s : State) : Host.Outcome State Fault Refusal :=
  act (settleScript voice) s

/-- HOOK_DEBOUNCED_CHANGE (R126). -/
def execHookDebouncedChange (order : DeliveryOrder) (s : State) : Host.Outcome State Fault Refusal :=
  act (settleHookChange order) s

/-- HANG_UP (R126). -/
def execHangUp (order : DeliveryOrder) (s : State) : Host.Outcome State Fault Refusal :=
  act (settleHangUp order) s

/-- PULSE (R128). -/
def execPulse (s : State) : Host.Outcome State Fault Refusal :=
  act settlePulse s

/-- INVALID_DIGIT (R128). -/
def execInvalidDigit (s : State) : Host.Outcome State Fault Refusal :=
  act settleInvalidDigit s

/-- DIGIT_END (R128 to R130). -/
def execDigitEnd (s : State) : Host.Outcome State Fault Refusal :=
  act settleDigitEnd s

/-- BARRED_RELEASE (R128). -/
def execBarredRelease (s : State) : Host.Outcome State Fault Refusal :=
  act settleBarredRelease s

/-- DIGIT_WAIT_EXPIRY (R129, R130). -/
def execDigitWaitExpiry (s : State) : Host.Outcome State Fault Refusal :=
  act settleDigitWait s

end Sys2Proof.Machine
end

