-- ==== Sys2Proof/Machine/PowerCommands.lean ====
section
/-! DEFINITION. The meanings of the resets, the supply's fall, the ends of an erase and a write, and the entry to doze. -/

namespace Sys2Proof.Machine

/-- POWER_ON_RESET (R161): the supply rises; an erase or write still running is cut short (R165, log 11). -/
def execPowerOnReset (s : State) : Host.Outcome State Fault Refusal :=
  .next (startUp true (cutShort s))

/-- RESTART_AFTER_REPLY (R161, R163): the OK has been sent. -/
def execRestartAfterReply (s : State) : Host.Outcome State Fault Refusal :=
  act settleRestart s

/-- ERASE_COMPLETE (R159), once the erase has lasted its 12 ms (log 24). -/
def execEraseComplete (s : State) : Host.Outcome State Fault Refusal :=
  act settleErase s

/-- WRITE_COMPLETE (R160), once the write has lasted its 2 ms (log 24). -/
def execWriteComplete (s : State) : Host.Outcome State Fault Refusal :=
  act settleWrite s

/-- POWER_FAIL (R159, R160, log 10). -/
def execPowerFail (s : State) : Host.Outcome State Fault Refusal :=
  act (fun t => powerDown (cutShort t)) s

/-- DOZE_ENTRY (R166). -/
def execDozeEntry (s : State) : Host.Outcome State Fault Refusal :=
  act settleDozeEntry s

end Sys2Proof.Machine
end

