-- ==== Sys2Proof/WellFormed.lean ====
section
/-! DEFINITION. Which commands the ports can deliver. Two rows carry an operand whose type is wider than the port: the converter's reading (R13) and the byte of BADCMD (R163). -/

namespace Sys2Proof

/-- The command bytes of the table of R163. -/
def commandBytes : List Byte :=
  [0x10, 0x20, 0x21, 0x30, 0x31, 0x40, 0x41, 0x50, 0x60]

/-- A sample is in the range of the 12-bit converter (R13). -/
def sampleInRange (x : Int) : Bool := decide (-2048 ≤ x ∧ x ≤ 2047)

/-- The byte names no command of the table of R163. -/
def namesNoCommand (b : Byte) : Bool := !commandBytes.contains b

/-- The commands that the ports can deliver. -/
def Instr.wellFormed : Instr → Bool
  | .lineSample x => sampleInRange x
  | .badcmd b => namesNoCommand b
  | .powerOnReset | .blockEnd .. | .lineIdle | .unusableLimit | .overLongSymbol | .stuckTone
  | .gapLimit | .checkedAttemptStart | .talkOver | .requestWaitLimit | .backOffEnd | .tick ..
  | .scriptStepEnd _ | .hookDebouncedChange _ | .hangUp _ | .pulse | .invalidDigit | .digitEnd
  | .barredRelease | .digitWaitExpiry | .completionHoldExpiry | .lingerExpiry | .pollLossExpiry
  | .ringReplyExpiry | .delayExpiry | .pollReplyExpiry | .revertExpiry | .showExpiry | .originate
  | .trunkLapse | .dozeEntry | .setupStartBit | .setupByte .. | .setupGapTimeout
  | .setupReplyStart | .read _ | .enterSetup | .leaveSetup | .erase | .write .. | .conditions
  | .clearConditions | .stateReport | .restart | .restartAfterReply | .eraseComplete
  | .writeComplete | .entryWindowClose | .powerFail => true

end Sys2Proof
end

