-- ==== Sys2Proof/Machine/SetupCommands.lean ====
section
/-! DEFINITION. The meanings of the Setup Link's commands. -/

namespace Sys2Proof.Machine

/-- SETUP_START_BIT (R167): a dozing station wakes. -/
def execSetupStartBit (s : State) : Host.Outcome State Fault Refusal :=
  act wake s

/-- SETUP_BYTE (R163): a byte received, after a command or a timeout that stands due. -/
def execSetupByte (b : Byte) (stopHigh : Bool) (s : State) : Host.Outcome State Fault Refusal :=
  act (fun t => takeByte b stopHigh (settleBytes t)) s

/-- SETUP_GAP_TIMEOUT (R163). -/
def execSetupGapTimeout (s : State) : Host.Outcome State Fault Refusal :=
  act settleGapTimeout s

/-- SETUP_REPLY_START (R163): the first reply waiting begins to be sent, SETUP_TX being idle (log 24). -/
def execSetupReplyStart (s : State) : Host.Outcome State Fault Refusal :=
  act settleReplyStart s

/-- READ (R163). -/
def execRead (n : Byte) (s : State) : Host.Outcome State Fault Refusal :=
  act (arriveCommand (.read n)) s

/-- ENTER_SETUP (R164). -/
def execEnterSetup (s : State) : Host.Outcome State Fault Refusal :=
  act (arriveCommand .enterSetup) s

/-- LEAVE_SETUP (R165). -/
def execLeaveSetup (s : State) : Host.Outcome State Fault Refusal :=
  act (arriveCommand .leaveSetup) s

/-- ERASE (R159, R163). -/
def execErase (s : State) : Host.Outcome State Fault Refusal :=
  act (arriveCommand .erase) s

/-- WRITE (R160, R163). -/
def execWrite (n v : Byte) (s : State) : Host.Outcome State Fault Refusal :=
  act (arriveCommand (.write n v)) s

/-- CONDITIONS (R163). -/
def execConditions (s : State) : Host.Outcome State Fault Refusal :=
  act (arriveCommand .conditions) s

/-- CLEAR_CONDITIONS (R163). -/
def execClearConditions (s : State) : Host.Outcome State Fault Refusal :=
  act (arriveCommand .clearConditions) s

/-- STATE (R163). -/
def execStateReport (s : State) : Host.Outcome State Fault Refusal :=
  act (arriveCommand .stateReport) s

/-- RESTART (R163). -/
def execRestart (s : State) : Host.Outcome State Fault Refusal :=
  act (arriveCommand .restart) s

/-- BADCMD (R163): a byte of the table is no such command and has no effect here. -/
def execBadcmd (b : Byte) (s : State) : Host.Outcome State Fault Refusal :=
  act (fun t => if namesNoCommand b then arriveCommand (.bad b) t else t) s

/-- ENTRY_WINDOW_CLOSE (R162). -/
def execEntryWindowClose (s : State) : Host.Outcome State Fault Refusal :=
  act settleWindowClose s

end Sys2Proof.Machine
end

