-- ==== Sys2Proof/Machine/Dispatch.lean ====
section
/-! DEFINITION. One arm per command: each calls the meaning of its row. -/

namespace Sys2Proof.Machine

def exec (i : Instr) (s : State) : Host.Outcome State Fault Refusal :=
  match i with
  | .powerOnReset => Sys2Proof.Machine.execPowerOnReset s
  | .lineSample x => Sys2Proof.Machine.execLineSample x s
  | .blockEnd lineLoaded trunkRing trunkCode order => Sys2Proof.Machine.execBlockEnd lineLoaded trunkRing trunkCode order s
  | .lineIdle => Sys2Proof.Machine.execLineIdle s
  | .unusableLimit => Sys2Proof.Machine.execUnusableLimit s
  | .overLongSymbol => Sys2Proof.Machine.execOverLongSymbol s
  | .stuckTone => Sys2Proof.Machine.execStuckTone s
  | .gapLimit => Sys2Proof.Machine.execGapLimit s
  | .checkedAttemptStart => Sys2Proof.Machine.execCheckedAttemptStart s
  | .talkOver => Sys2Proof.Machine.execTalkOver s
  | .requestWaitLimit => Sys2Proof.Machine.execRequestWaitLimit s
  | .backOffEnd => Sys2Proof.Machine.execBackOffEnd s
  | .tick hookClosed dialClosed => Sys2Proof.Machine.execTick hookClosed dialClosed s
  | .scriptStepEnd voice => Sys2Proof.Machine.execScriptStepEnd voice s
  | .hookDebouncedChange order => Sys2Proof.Machine.execHookDebouncedChange order s
  | .hangUp order => Sys2Proof.Machine.execHangUp order s
  | .pulse => Sys2Proof.Machine.execPulse s
  | .invalidDigit => Sys2Proof.Machine.execInvalidDigit s
  | .digitEnd => Sys2Proof.Machine.execDigitEnd s
  | .barredRelease => Sys2Proof.Machine.execBarredRelease s
  | .digitWaitExpiry => Sys2Proof.Machine.execDigitWaitExpiry s
  | .completionHoldExpiry => Sys2Proof.Machine.execCompletionHoldExpiry s
  | .lingerExpiry => Sys2Proof.Machine.execLingerExpiry s
  | .pollLossExpiry => Sys2Proof.Machine.execPollLossExpiry s
  | .ringReplyExpiry => Sys2Proof.Machine.execRingReplyExpiry s
  | .delayExpiry => Sys2Proof.Machine.execDelayExpiry s
  | .pollReplyExpiry => Sys2Proof.Machine.execPollReplyExpiry s
  | .revertExpiry => Sys2Proof.Machine.execRevertExpiry s
  | .showExpiry => Sys2Proof.Machine.execShowExpiry s
  | .originate => Sys2Proof.Machine.execOriginate s
  | .trunkLapse => Sys2Proof.Machine.execTrunkLapse s
  | .dozeEntry => Sys2Proof.Machine.execDozeEntry s
  | .setupStartBit => Sys2Proof.Machine.execSetupStartBit s
  | .setupByte b stopHigh => Sys2Proof.Machine.execSetupByte b stopHigh s
  | .setupGapTimeout => Sys2Proof.Machine.execSetupGapTimeout s
  | .setupReplyStart => Sys2Proof.Machine.execSetupReplyStart s
  | .read n => Sys2Proof.Machine.execRead n s
  | .enterSetup => Sys2Proof.Machine.execEnterSetup s
  | .leaveSetup => Sys2Proof.Machine.execLeaveSetup s
  | .erase => Sys2Proof.Machine.execErase s
  | .write n v => Sys2Proof.Machine.execWrite n v s
  | .conditions => Sys2Proof.Machine.execConditions s
  | .clearConditions => Sys2Proof.Machine.execClearConditions s
  | .stateReport => Sys2Proof.Machine.execStateReport s
  | .restart => Sys2Proof.Machine.execRestart s
  | .badcmd b => Sys2Proof.Machine.execBadcmd b s
  | .restartAfterReply => Sys2Proof.Machine.execRestartAfterReply s
  | .eraseComplete => Sys2Proof.Machine.execEraseComplete s
  | .writeComplete => Sys2Proof.Machine.execWriteComplete s
  | .entryWindowClose => Sys2Proof.Machine.execEntryWindowClose s
  | .powerFail => Sys2Proof.Machine.execPowerFail s

end Sys2Proof.Machine
end

