-- ==== Sys2Proof/Safety.lean ====
section
/-! DEFINITION. The terms the statements use: what a safe step is, the part ready for a command, frames, and the tone-by-tone reading of a bank. -/

namespace Sys2Proof.Machine

/-- The step answers a next state: no fault and no refusal. -/
def Completes (o : Host.Outcome State Fault Refusal) : Prop := ∃ t, o = .next t

/-- The part has its supply and no event waits: how every command finds it and leaves it. -/
abbrev Ready (s : State) : Prop := s.powered = true ∧ s.inbox = []

/-- No step of the part's own stands due (log 2). -/
abbrev NothingDue (s : State) : Prop := settleButRestart s = s ∧ restartDue s = false

/-! ## Frames -/

/-- The parts of the state, one for each field. -/
inductive Part where
  | pending
  | powered
  | pins
  | frame
  | det
  | conds
  | rx
  | engine
  | out
  | tx
  | view
  | answer
  | request
  | dial
  | trunk
  | store
  | settings
  | link
  | doze
  | lamp
  | inbox
  | draws
  deriving DecidableEq, Repr

/-- The two states agree on a part. -/
def Same : Part → State → State → Prop
  | .pending, s, t => t.pending = s.pending
  | .powered, s, t => t.powered = s.powered
  | .pins, s, t => t.pins = s.pins
  | .frame, s, t => t.frame = s.frame
  | .det, s, t => t.det = s.det
  | .conds, s, t => t.conds = s.conds
  | .rx, s, t => t.rx = s.rx
  | .engine, s, t => t.engine = s.engine
  | .out, s, t => t.out = s.out
  | .tx, s, t => t.tx = s.tx
  | .view, s, t => t.view = s.view
  | .answer, s, t => t.answer = s.answer
  | .request, s, t => t.request = s.request
  | .dial, s, t => t.dial = s.dial
  | .trunk, s, t => t.trunk = s.trunk
  | .store, s, t => t.store = s.store
  | .settings, s, t => t.settings = s.settings
  | .link, s, t => t.link = s.link
  | .doze, s, t => t.doze = s.doze
  | .lamp, s, t => t.lamp = s.lamp
  | .inbox, s, t => t.inbox = s.inbox
  | .draws, s, t => t.draws = s.draws

/-- From `s` to `t` only the listed parts may change. -/
def OnlyParts (ps : List Part) (s t : State) : Prop := ∀ p, p ∉ ps → Same p s t

/-! ## Banks by tone -/

/-- The value a bank holds for a tone. -/
def Bank.ofTone {α : Type} (b : Bank α) (k : Tone) : α :=
  match k with
  | 0 => b.t0
  | 1 => b.t1
  | 2 => b.t2
  | 3 => b.t3
  | 4 => b.t4
  | 5 => b.t5
  | 6 => b.t6
  | 7 => b.t7

/-- R25: tone `x` ranks above tone `y`: more energy, or as much and a lower index. -/
abbrev ranksAbove (e : Bank Nat) (x y : Tone) : Prop :=
  e.ofTone y < e.ofTone x ∨ (e.ofTone y = e.ofTone x ∧ x < y)

/-- R25: `a`, `b`, `c` are the first three tones of the ranking. -/
abbrev TopThree (e : Bank Nat) (a b c : Tone) : Prop :=
  ranksAbove e a b ∧ ranksAbove e b c ∧ ∀ d, d ≠ a → d ≠ b → d ≠ c → ranksAbove e c d

end Sys2Proof.Machine
end

