-- ==== Sys2Proof/Certificates/Slice0/Obligations.lean ====
section
/-! DEFINITION. The statements for the provers. -/

open Sys2Proof Sys2Proof.Machine

/-! ## The machine as a whole -/

/-- A step takes the command at the front of the queue and carries it out with the queue's rest; with an empty queue it idles (the model's choice, log 4). -/
def Obligations.StepTakesTheFrontCommand : Prop :=
  (∀ (c : Instr) (rest : List Instr) (s : State),
    step { s with pending := c :: rest } = exec c { s with pending := rest }) ∧
  (∀ s : State, s.pending = [] → step s = .next s)

/-- Every command, in every state, answers a next state and leaves the queue as it is: the manual names no event that stops the part. The model's own convention (log 7): the events raised in a command are all taken in it. -/
def Obligations.EveryCommandCompletesAndKeepsTheQueue : Prop :=
  ∀ (c : Instr) (s : State), ∃ t, exec c s = .next t ∧ t.pending = s.pending ∧
    (s.inbox = [] → t.inbox = [])

/-- R14, R21, R35, R52, R71, R87, R104, R125, R131, R148, R161 to R163, R166, R168: the values a power-on reset leaves. The page, the settings and the input pins are not part of the statement (log 1, log 12). -/
def Obligations.ResetStateHoldsTheStatedValues : Prop :=
  let r := State.reset
  r.frame = ⟨0, 0⟩ ∧ r.det.floor = 64 ∧ r.det.mode = .full ∧ r.det.sumSq = 0 ∧ r.det.clips = 0 ∧
  (∀ k, r.det.filters.ofTone k = ⟨0, 0⟩) ∧
  r.conds = ⟨false, false, false, false, false, false, false⟩ ∧
  r.rx = ⟨.idle, none, 0⟩ ∧
  r.engine.v0 = ⟨false, 0, 0, 0⟩ ∧ r.engine.v1 = ⟨false, 0, 0, 0⟩ ∧
  r.engine.ear = ⟨false, 0, 0, 0, none, 0, 0, 0, false, none, false⟩ ∧
  r.engine.bell = ⟨false, 0, 0, 0, none, 0, 0, 0, false, none, false⟩ ∧
  r.engine.offHook = false ∧ r.out = ⟨0, 0, false, false, false⟩ ∧
  r.tx.prompt = [] ∧ r.tx.request = [] ∧ r.tx.attempt = none ∧ r.tx.quiet = 0 ∧ r.tx.backOff = 0 ∧
  r.view = ⟨.free, 0, [], none, false⟩ ∧ r.answer = ⟨none, false⟩ ∧ r.request = ⟨none, none, false⟩ ∧
  r.dial.hook = .unknown ∧ r.dial.rawLevel = none ∧ r.dial.rawRun = 0 ∧ r.dial.period = 0 ∧
  r.dial.state = .idle ∧ r.dial.pulses = 0 ∧ r.dial.opening = 0 ∧ r.dial.closure = 0 ∧
  r.dial.buffer = [] ∧ r.dial.digitWait = none ∧
  r.trunk = ⟨300, none, .idle, false⟩ ∧
  r.link.setupMode = false ∧ r.link.powerOn = 0 ∧ r.link.partialCmd = [] ∧ r.link.gap = 0 ∧
  r.link.replies = [] ∧ r.link.sending = none ∧ r.doze = ⟨false, 0⟩ ∧ r.lamp.pattern = .off ∧
  r.lamp.lit = false

/-- R158, R161, R162: POWER_ON_RESET with no erase or write running: every block takes its reset value, the page is kept and read (the pins are log 12's). RESTART_AFTER_REPLY once the OK has been sent: the same, but the condition set and the power-on count are kept; while the OK waits or is being sent, or with no restart awaited, it changes nothing (the model's choice, log 3). -/
def Obligations.StartsAfreshAtAResetOrARestart : Prop :=
  (∀ s : State, s.store.op = .idle →
    exec .powerOnReset s = .next
      { State.reset with
        pending := s.pending, pins := s.pins, store := s.store, draws := s.draws
        settings := s.store.page.settings
        dial := if s.store.page.settings.map (·.code) = some 15
          then { State.reset.dial with hook := .onHook } else State.reset.dial }) ∧
  (∀ s : State, s.powered = true →
    s.link.awaitRestart = false ∨ s.link.sending ≠ none ∨ s.link.replies ≠ [] →
    exec .restartAfterReply s = .next s) ∧
  (∀ s : State, s.powered = true → s.link.awaitRestart = true → s.link.sending = none →
    s.link.replies = [] → s.store.op = .idle →
    ∃ t u, exec .restartAfterReply s = .next t ∧ exec .powerOnReset s = .next u ∧
      t.conds = s.conds ∧ t.link.powerOn = s.link.powerOn ∧
      t = { u with
        conds := s.conds
        link := { u.link with powerOn := s.link.powerOn, windowDue := s.link.windowDue } })

/-- R158: the page is valid exactly when cell 8 holds 0xA5 and cell 0 holds 1 to 15, and each setting is the range value, the unwritten value or the out-of-range value of the table. -/
def Obligations.SettingsComeFromThePageTable : Prop :=
  ∀ p : Page,
    (p.settings.isSome = true ↔ p.c8 = 0xA5 ∧ 1 ≤ p.c0.toNat ∧ p.c0.toNat ≤ 15) ∧
    ∀ v, p.settings = some v →
      v.code.val = p.c0.toNat ∧
      v.cadence.val = (if p.c1 = 0xFF then 0 else min 7 p.c1.toNat) ∧
      v.limit = (if p.c2 = 0xFF then 10 else max 4 (min 15 p.c2.toNat)) ∧
      v.permissions = (if p.c3.toNat ≤ 3 then p.c3.toNat else 0) ∧
      v.level = (if p.c4 = 0xFF then 2 else min 3 p.c4.toNat) ∧
      v.sensitivity = (if p.c5 = 0xFF then 2 else min 7 p.c5.toNat) ∧
      v.lenient = decide (p.c6 = 1) ∧
      v.revert = (if p.c7 = 0xFF then 6 else max 2 (min 12 p.c7.toNat))

/-- R158: the settings in force do not change between two starts: no command but POWER_ON_RESET and POWER_FAIL changes them while no restart is awaited. -/
def Obligations.SettingsStayInForceUntilAStart : Prop :=
  ∀ (c : Instr) (s t : State), c ≠ .powerOnReset → c ≠ .powerFail → s.link.awaitRestart = false →
    exec c s = .next t → t.settings = s.settings

/-- R159, R160, R165: the supply falls, or rises again, with the store idle, erasing or writing: whatever the free values (log 9), the page stays, or is invalid with every cell kept or erased, or changes in the one cell written alone. The cut is made at the fall (the model's choice, log 10), or by POWER_ON_RESET where no POWER_FAIL came before it (deduced, log 11). Once the erase has lasted its 12 ms ERASE_COMPLETE leaves nine erased cells, and once the write has lasted its 2 ms WRITE_COMPLETE leaves the value in its cell and every other cell as it was; the store is free again, and nothing else changes. Before that the store is busy and the command changes nothing, so the cells that are not yet erased or written keep their values (the model's choice, log 50; the command of a step that is not due: log 3; the samples that remain: log 24). -/
def Obligations.EraseAndWriteEndOrAreCutShort : Prop :=
  (∀ (c : Instr) (s : State), c = .powerFail ∧ s.powered = true ∨ c = .powerOnReset →
    ∃ t, exec c s = .next t ∧ t.powered = decide (c = .powerOnReset) ∧ t.store.op = .idle ∧
      (s.store.op = .idle → t.store.page = s.store.page) ∧
      (∀ k, s.store.op = .erasing k →
        t.store.page.c8 = 0xFF ∧ t.store.page.settings = none ∧
        ∀ n, n < 8 → t.store.page.get n = s.store.page.get n ∨ t.store.page.get n = 0xFF) ∧
      (∀ n v k, s.store.op = .writing n v k →
        (t.store.page.get n = v ∨ t.store.page.get n = 0xFF) ∧
        ∀ m, m ≠ n → t.store.page.get m = s.store.page.get m)) ∧
  (∀ s : State, s.powered = true →
    (s.store.op = .erasing 0 →
      exec .eraseComplete s = .next
        { s with store :=
          ⟨⟨0xFF, 0xFF, 0xFF, 0xFF, 0xFF, 0xFF, 0xFF, 0xFF, 0xFF⟩, .idle⟩ }) ∧
    (s.store.op ≠ .erasing 0 → exec .eraseComplete s = .next s) ∧
    (∀ (n : Nat) (v : Byte), n ≤ 8 → s.store.op = .writing n v 0 →
      ∃ p, exec .writeComplete s = .next { s with store := ⟨p, .idle⟩ } ∧ p.get n = v ∧
        ∀ m, m ≠ n → p.get m = s.store.page.get m) ∧
    ((∀ n v, s.store.op ≠ .writing n v 0) → exec .writeComplete s = .next s) ∧
    (storeBusy s = true ↔ s.store.op ≠ .idle))

/-- R163: a condition once set stays set through every command but POWER_ON_RESET, POWER_FAIL and CLEAR_CONDITIONS, when no CLEAR-CONDITIONS byte waits to be carried out. -/
def Obligations.ConditionsAreSticky : Prop :=
  ∀ (c : Instr) (s t : State), c ≠ .powerOnReset → c ≠ .powerFail → c ≠ .clearConditions →
    s.link.partialCmd ≠ [0x41] → exec c s = .next t →
    (s.conds.overdrive = true → t.conds.overdrive = true) ∧
    (s.conds.brokenWord = true → t.conds.brokenWord = true) ∧
    (s.conds.clash = true → t.conds.clash = true) ∧
    (s.conds.sendAbandoned = true → t.conds.sendAbandoned = true) ∧
    (s.conds.laneFull = true → t.conds.laneFull = true) ∧
    (s.conds.stuckTone = true → t.conds.stuckTone = true) ∧
    (s.conds.badTrunkCode = true → t.conds.badTrunkCode = true)

/-! ## Invariants -/

/-- R52: the counts of a line voice. -/
abbrev LineVoiceInRange (v : LineVoice) : Prop := v.phase < 65536 ∧ v.step < 65536 ∧ v.level ≤ 15

/-- R52: the counts of voice 2 or 3 and of its script record. -/
abbrev ScriptVoiceInRange (c : CadenceVoice) : Prop :=
  c.phase < 65536 ∧ c.step < 65536 ∧ c.level ≤ 15 ∧ c.index ≤ 15 ∧ c.remaining ≤ 255 ∧ c.plays ≤ 15

/-- R71: the attempt and wait counts of a lane; a queued entry has had at most four attempts. -/
abbrev EntriesInRange (t : Transmitter) (l : Lane) (limit : Nat) : Prop :=
  (∀ e ∈ t.entries l, e.attempts ≤ 5 ∧ e.wait ≤ limit) ∧ ∀ e ∈ t.queued l, e.attempts ≤ 4

/-- R104: the cycles, marks and timer of the call in the slot; a ringing call is below the limit (R112). -/
abbrev CallInRange (limit : Nat) (c : Call) : Prop :=
  c.cycles ≤ limit ∧ (c.phase = .ringing .ringer ∨ c.phase = .ringing .earpiece → c.cycles < limit) ∧
  c.marks ≤ 3 ∧ c.timer ≤ 500

/-- R131: the sends, misses and timer of the request record. -/
abbrev RequestInRange (r : Request) : Prop := r.sends ≤ 3 ∧ r.misses ≤ 3 ∧ r.timer ≤ 3000

/-- R158: the settings in force. -/
abbrev SettingsInRange (v : Settings) : Prop :=
  1 ≤ v.code.val ∧ 4 ≤ v.limit ∧ v.limit ≤ 15 ∧ v.permissions ≤ 3 ∧ v.level ≤ 3 ∧
  v.sensitivity ≤ 7 ∧ 2 ≤ v.revert ∧ v.revert ≤ 12

/-- R125: the counts of the Dial Decoder. -/
abbrev DialInRange (d : DialDecoder) : Prop :=
  d.rawRun ≤ 3 ∧ d.period ≤ 80 ∧ d.pulses ≤ 10 ∧ d.opening ≤ 11 ∧ d.closure ≤ 30 ∧
  d.buffer.length ≤ 3 ∧ ∀ n ∈ d.digitWait, n ≤ 300

/-- R21, R52, R71, R87, R104, R125, R131, R148, R158, R162, R163, R166: the noise floor, the engine's counts, the transmitter's counts and its entries', the view's idle count, the slot's and the record's counts and timers, the decoder's counts, the silence count, the settings, the power-on count, the gap timer and the doze count, each in its stated range. -/
abbrev CountsInRange (s : State) : Prop :=
  (16 ≤ s.det.floor ∧ s.det.floor ≤ 65535) ∧
  (LineVoiceInRange s.engine.v0 ∧ LineVoiceInRange s.engine.v1 ∧ ScriptVoiceInRange s.engine.ear ∧
    ScriptVoiceInRange s.engine.bell) ∧
  (s.tx.quiet ≤ 3 ∧ s.tx.backOff ≤ 76 ∧ EntriesInRange s.tx .prompt 100 ∧
    EntriesInRange s.tx .request 250) ∧
  s.view.idle ≤ 50 ∧ (∀ c ∈ s.answer.slot, CallInRange (cycleLimit s) c) ∧
  (∀ r ∈ s.request.record, RequestInRange r) ∧ DialInRange s.dial ∧ s.trunk.silence ≤ 300 ∧
  (∀ v ∈ s.settings, SettingsInRange v) ∧ s.link.powerOn ≤ 6000 ∧ s.link.gap ≤ 10 ∧
  s.doze.count ≤ 100

/-- R71: no lane holds more than its depth. -/
abbrev LanesInDepth (s : State) : Prop := s.tx.prompt.length ≤ 4 ∧ s.tx.request.length ≤ 2

/-- R100, R101: the two outputs stand as the view and the hook say. -/
def OutputsFollowView (s : State) : Prop :=
  (s.out.privacy = true ↔ s.view.offHook = true ∧ s.view.record ≠ .free ∧ isInvolved s = false) ∧
  (s.out.trunkConnect = true ↔
    ownCode s = some 15 ∧ isParty s = true ∧ ∃ a b k, s.view.record = .held a b k)

/-- R85, R102, R124, R147, R157, R161: in setup mode and in UNSET the blocks of the calls are empty. -/
abbrev OfflineIsEmpty (s : State) : Prop :=
  s.settings = none ∨ s.link.setupMode = true →
    s.view.record = .free ∧ s.view.rings = [] ∧ s.view.pendingClear = none ∧
    s.answer.slot = none ∧ s.request.record = none ∧ s.request.pendingBreak = none ∧
    s.tx.prompt = [] ∧ s.tx.request = [] ∧ s.tx.attempt = none ∧
    s.trunk.incoming = .idle ∧ s.trunk.latched = none ∧ s.doze = ⟨false, 0⟩

/-- Every step keeps in their ranges the noise floor, the engine's counts, the quiet and back-off counts, the attempt and wait counts, the idle count, the cycles, marks and timer of the slot, the sends, misses and timer of the record, the decoder's counts, the silence count, the settings, the power-on count, the gap timer and the doze count, and the lanes within their depths. The receiver's counts, which stand above their range while a limit is due (log 2), are not part of it. -/
def Obligations.EveryStepKeepsCountsInRange : Prop :=
  ∀ s t : State, CountsInRange s ∧ LanesInDepth s → step s = .next t →
    CountsInRange t ∧ LanesInDepth t

/-- Every step keeps PRIVACY and TRUNK_CONNECT equal to what the view and the hook say. -/
def Obligations.EveryStepKeepsOutputsFollowingTheView : Prop :=
  ∀ s t : State, OutputsFollowView s → step s = .next t → OutputsFollowView t

/-- Every step keeps the blocks of the calls empty in setup mode and in UNSET, and the station awake with doze count 0 (at the entry to setup mode the model's choice, log 22). -/
def Obligations.EveryStepKeepsOfflineEmpty : Prop :=
  ∀ s t : State, OfflineIsEmpty s → step s = .next t → OfflineIsEmpty t

/-- The invariants hold right after a power-on reset, and no event waits. -/
def Obligations.InvariantsHoldAtReset : Prop :=
  CountsInRange State.reset ∧ LanesInDepth State.reset ∧ OutputsFollowView State.reset ∧
    OfflineIsEmpty State.reset ∧ State.reset.inbox = []

/-! ## Line front end and Band Detector -/

/-- R13, R14, R16, R18, R19, R31, R159, R160, R163: LINE_SAMPLE, with nothing due and neither the tick nor the block over. At full rate each of the eight filters takes the sample with its coefficient of R1, and the sum of squares, the clip count and the framing move on; in doze only the filters of T2 and T6 run, and only in blocks 0, 4, 8, …. In both, one sample of a running erase or write passes, no cell changing (the model's choice, log 50), and three hundredths of a byte of the reply being sent (deduced, log 24). -/
def Obligations.SampleEntersTheBlock : Prop :=
  (∀ (x : Int) (s : State), s.powered = true → NothingDue s → s.frame.pos < 160 →
    s.frame.tickPos < 80 → s.det.mode = .full →
    let f (c : Int) (y : FilterState) : FilterState := ⟨x + (c * y.s1 + 8192) / 16384 - y.s2, y.s1⟩
    let b := s.det.filters
    ∃ t, exec (.lineSample x) s = .next t ∧ t.frame = ⟨s.frame.pos + 1, s.frame.tickPos + 1⟩ ∧
      t.det.filters = ⟨f 28590 b.t0, f 26510 b.t1, f 24062 b.t2, f 21281 b.t3, f 14876 b.t4,
        f 7650 b.t5, f 0 b.t6, f (-7650) b.t7⟩ ∧
      (t.det.sumSq : Int) = s.det.sumSq + x * x ∧
      t.det.clips = s.det.clips + (if x = -2048 ∨ x = 2047 then 1 else 0) ∧
      t.det.floor = s.det.floor ∧ t.det.mode = .full ∧
      t.store = { s.store with
        op := match s.store.op with
          | .idle => .idle
          | .erasing k => .erasing (k - 1)
          | .writing n v k => .writing n v (k - 1) } ∧
      t.link = { s.link with
        sending := match s.link.sending with
          | none => none
          | some r => if r.left ≤ 3 then none else some ⟨r.bytes, r.left - 3⟩ } ∧
      OnlyParts [.frame, .det, .engine, .out, .store, .link] s t) ∧
  (∀ (x : Int) (s : State) (n : Nat), s.powered = true → NothingDue s → s.frame.pos < 160 →
    s.frame.tickPos < 80 → s.det.mode = .doze n →
    let f (c : Int) (y : FilterState) : FilterState := ⟨x + (c * y.s1 + 8192) / 16384 - y.s2, y.s1⟩
    let b := s.det.filters
    ∃ t, exec (.lineSample x) s = .next t ∧ t.frame = ⟨s.frame.pos + 1, s.frame.tickPos + 1⟩ ∧
      (n % 4 = 0 →
        t.det.filters = { b with t2 := f 24062 b.t2, t6 := f 0 b.t6 } ∧
        (t.det.sumSq : Int) = s.det.sumSq + x * x ∧
        t.det.clips = s.det.clips + (if x = -2048 ∨ x = 2047 then 1 else 0) ∧
        t.det.floor = s.det.floor ∧ t.det.mode = .doze n) ∧
      (n % 4 ≠ 0 → t.det = s.det) ∧
      t.store = { s.store with
        op := match s.store.op with
          | .idle => .idle
          | .erasing k => .erasing (k - 1)
          | .writing n v k => .writing n v (k - 1) } ∧
      t.link = { s.link with
        sending := match s.link.sending with
          | none => none
          | some r => if r.left ≤ 3 then none else some ⟨r.bytes, r.left - 3⟩ } ∧
      OnlyParts [.frame, .det, .engine, .out, .store, .link] s t)

/-- R53 to R55: LINE_SAMPLE with nothing due produces one sample of every output from the voices as they stand, each at the level it holds (deduced, log 32: R54 and R55 name L and 10, which a HOLD and a START load), and the sounding voices' phases move on. -/
def Obligations.SampleProducesTheOutputs : Prop :=
  ∀ (x : Int) (s : State), s.powered = true → NothingDue s → s.frame.pos < 160 →
    s.frame.tickPos < 80 →
    let y (v : LineVoice) : Int := if v.play then sineEntry (v.phase / 256) else 0
    let move (v : LineVoice) : LineVoice :=
      if v.play then { v with phase := (v.phase + v.step) % 65536 } else v
    let turn (c : CadenceVoice) : CadenceVoice :=
      if c.sounding then { c with phase := (c.phase + c.step) % 65536 } else c
    let e := s.engine
    ∃ t, exec (.lineSample x) s = .next t ∧
      t.out = { s.out with
        lineOut := roundHalfAway (y e.v0 * e.v0.level + y e.v1 * e.v1.level) 32
        earpiece := roundHalfAway
          ((if e.ear.sounding then sineEntry (e.ear.phase / 256) else 0) * e.ear.level) 16
        ringer := e.bell.sounding && decide (e.bell.phase < 32768) } ∧
      t.engine = { e with
        v0 := move e.v0, v1 := move e.v1, ear := turn e.ear, bell := turn e.bell }

/-- R54, R55: rounding is to the nearest integer with halves away from zero, and with levels up to 15 and 10 the line output stays within 1919 and the earpiece output within 1279 either way. -/
def Obligations.OutputsStayInTheirRanges : Prop :=
  (∀ (n : Int) (d : Nat), 0 < d →
    let r := 2 * (d * roundHalfAway n d)
    (0 ≤ n → 2 * n - d < r ∧ r ≤ 2 * n + d) ∧ (n < 0 → 2 * n - d ≤ r ∧ r < 2 * n + d)) ∧
  ∀ e : Engine, e.v0.level ≤ 15 → e.v1.level ≤ 15 → e.ear.level = 10 →
    -1919 ≤ lineSampleOut e ∧ lineSampleOut e ≤ 1919 ∧
    -1279 ≤ earpieceOut e ∧ earpieceOut e ≤ 1279

/-- R20, R23 to R28: the decision of a full-rate block from its clip count, its total Q, its threshold T and its energies, whose first three tones are `a`, `b` and `c`. -/
def Obligations.BlockDecisionFollowsTheTests : Prop :=
  ∀ (lenient : Bool) (clips q t : Nat) (e : Bank Nat) (a b c : Tone), TopThree e a b c →
    let strong := (List.finRange 8).countP (fun k => decide (q / 8 ≤ e.ofTone k))
    let pairHolds := 1 ≤ e.ofTone b ∧ e.ofTone a ≤ 4 * e.ofTone b ∧
      8 * e.ofTone c ≤ e.ofTone b ∧ 3 * q ≤ 4 * (e.ofTone a + e.ofTone b)
    let d := blockDecision lenient clips q t e
    let clipped := 4 ≤ clips ∧ lenient = false
    (clipped → d = .unusable) ∧
    (¬clipped → q < t → d = .silent) ∧
    (¬clipped → t ≤ q → 3 ≤ strong → d = .overlap) ∧
    (¬clipped → t ≤ q → strong < 3 → pairHolds → d = .pair ⟨min a b, max a b⟩) ∧
    (¬clipped → t ≤ q → strong < 3 → ¬pairHolds → d = .noise)

/-- R14, R18, R19, R21, R24, R28, R29, R95, R106, R131, R161, R166: BLOCK_END, the block's 160 samples taken. With nothing due, at full rate, the block's decision moves the noise floor, 4 clipped samples set OVERDRIVE, and the next block starts from rest. The timers of the slot and the record fall first (the model's choice, log 19), the decision goes to the receiver and to the transmitter, and LINE_LOADED and the Trunk Interface are read, in the order that the operand gives (log 6; among those put first, log 46); in every order the receiver's records are those of the decision, and the idle count those of the reading. An awake station then makes the doze test by its eight conditions (last of all: log 2); one that was dozing makes none (log 20). A BLOCK_END before 160 samples changes nothing (the model's choice, log 3), and one that finds a restart due is that restart alone (the model's choice, log 5). -/
def Obligations.BlockEndMovesTheFloor : Prop :=
  (∀ (loaded ring : Bool) (code : Code) (o : EndOrder) (s : State),
    s.powered = true → NothingDue s → 160 ≤ s.frame.pos → s.det.mode = .full →
    let q : Nat := 5 * s.det.sumSq / 4096
    let f : Int := s.det.floor
    let b := s.det.filters
    let d := decisionOf s
    let inTx := s.tx.attempt.isSome || s.tx.cutBlock
    ∃ t, exec (.blockEnd loaded ring code o) s = .next t ∧
      d = blockDecision (lenientOf s) s.det.clips q (s.det.floor * (12 - sensitivityOf s) / 2)
        ⟨bandEnergy 28590 b.t0, bandEnergy 26510 b.t1, bandEnergy 24062 b.t2, bandEnergy 21281 b.t3,
          bandEnergy 14876 b.t4, bandEnergy 7650 b.t5, bandEnergy 0 b.t6, bandEnergy (-7650) b.t7⟩ ∧
      (t.det.floor : Int) = (match d with
        | .silent => max 16 (min 65535 (f + ((q : Int) - f) / 16))
        | .noise => max 16 (min 65535 (f + ((q : Int) - f) / 256))
        | .pair _ | .overlap | .unusable => f) ∧
      t.conds.overdrive = (s.conds.overdrive || decide (4 ≤ s.det.clips)) ∧
      t.frame = ⟨0, s.frame.tickPos⟩ ∧ t.det.sumSq = 0 ∧ t.det.clips = 0 ∧
      (∀ k, t.det.filters.ofTone k = ⟨0, 0⟩) ∧
      t.rx = (rxDecide d inTx o.delivery s).rx ∧
      (loaded = true → t.view.idle = 0) ∧
      (loaded = false → s.rx.word = none → t.view.idle = min 50 (s.view.idle + 1)) ∧
      OnlyParts [.pins, .frame, .det, .conds, .rx, .engine, .out, .tx, .view, .answer, .request,
        .dial, .trunk, .doze, .inbox] s t) ∧
  (∀ (loaded ring : Bool) (code : Code) (o : EndOrder) (s : State),
    s.powered = true → NothingDue s → 160 ≤ s.frame.pos → s.det.mode = .full →
    let d := decisionOf s
    let inTx := s.tx.attempt.isSome || s.tx.cutBlock
    let reading (u : State) : State :=
      { u with view := { u.view with idle := if loaded then 0 else min 50 (u.view.idle + 1) } }
    let timed : State :=
      { s with
        pins := { s.pins with lineLoaded := loaded, trunkRing := ring, trunkCode := code }
        answer := { s.answer with
          slot := s.answer.slot.map (fun c => { c with timer := c.timer - 1 }) }
        request := { s.request with
          record := s.request.record.map (fun r =>
            if r.wait = .sending ∨ r.wait = .stopped then r else { r with timer := r.timer - 1 }) } }
    let b₁ := if o.idleFirst then settleLineIdle (reading timed) else timed
    let b₂ := if o.slotFirst then settleSlot b₁ else b₁
    let b₃ := if o.recordFirst then settleRecord b₂ else b₂
    let b₄ := if o.trunkFirst then settleTest (settleTrunkLapse (trunkBlock b₃)) else b₃
    let measured : State :=
      { b₄ with
        conds := { b₄.conds with overdrive := b₄.conds.overdrive || decide (4 ≤ s.det.clips) }
        det := { s.det with floor := floorAfter s.det.floor (5 * s.det.sumSq / 4096) d } }
    let receives (u : State) := finish (rxDecide d inTx o.delivery u)
    let transmits (u : State) := finish (txDecide d u)
    let decided := if o.txFirst then receives (transmits measured) else transmits (receives measured)
    let read := if o.idleFirst then decided else reading decided
    let u := finish (if o.trunkFirst then read else trunkBlock read)
    exec (.blockEnd loaded ring code o) s = .next
      { u with
        frame := ⟨0, s.frame.tickPos⟩
        det := ⟨.const ⟨0, 0⟩, 0, 0, measured.det.floor, if u.doze.dozing then .doze 0 else .full⟩
        tx := { u.tx with cutBlock := false }
        doze := if s.doze.dozing then u.doze
          else ⟨u.doze.dozing, if dozeConditions u then min 100 (u.doze.count + 1) else 0⟩ }) ∧
  (∀ (loaded ring : Bool) (code : Code) (o : EndOrder) (s : State),
    s.powered = true → NothingDue s → 160 ≤ s.frame.pos → s.doze.dozing = false →
    ∃ t, exec (.blockEnd loaded ring code o) s = .next t ∧ t.doze.dozing = false ∧
      let holds := t.settings ≠ none ∧ t.link.setupMode = false ∧
        (ownCode t = some 15 ∨ t.dial.hook = .onHook ∧ t.dial.period = 80) ∧
        t.answer.slot = none ∧ (t.request.record = none ∧ t.request.pendingBreak = none) ∧
        (t.tx.prompt = [] ∧ t.tx.request = [] ∧ t.tx.backOff = 0) ∧
        (t.engine.ear.script = none ∧ t.engine.bell.script = none) ∧
        (t.rx.symbol = .idle ∧ t.rx.word = none) ∧ (ownCode t = some 15 → 300 ≤ t.trunk.silence)
      (holds → t.doze.count = min 100 (s.doze.count + 1)) ∧ (¬holds → t.doze.count = 0)) ∧
  (∀ (loaded ring : Bool) (code : Code) (o : EndOrder) (s : State), s.powered = true →
    (s.frame.pos < 160 → exec (.blockEnd loaded ring code o) s = .next s) ∧
    (160 ≤ s.frame.pos → settleButRestart s = s → restartDue s = true →
      exec (.blockEnd loaded ring code o) s = exec .restartAfterReply
        { s with pins := { s.pins with lineLoaded := loaded, trunkRing := ring, trunkCode := code } }))

/-- R22, R31 to R33, R95, R149, R150, R166, R167: BLOCK_END of a block measured in doze, with nothing due: the floor is held and no decision reaches the receiver. A dozing station wakes exactly on an evaluated block that passes the attention test, or, at the trunk-end in service, on a rise; no doze test is made at the block end that wakes it, so the count is then 0 (the model's choice, log 20). Full rate begins at the next block, also where another cause had already woken it. DOZE_ENTRY at a count of 100, and SETUP_START_BIT, which wakes a dozing station or takes back an entry that is due (the model's choice, log 21). -/
def Obligations.DozeIsEnteredTestedAndLeft : Prop :=
  (∀ (loaded ring : Bool) (code : Code) (o : EndOrder) (s : State) (n : Nat),
    s.powered = true → NothingDue s → 160 ≤ s.frame.pos → s.det.mode = .doze n →
    let q := 5 * s.det.sumSq / 4096
    let t := s.det.floor * (12 - sensitivityOf s) / 2
    let e2 := bandEnergy 24062 s.det.filters.t2
    let e6 := bandEnergy 0 s.det.filters.t6
    let passed := n % 4 = 0 ∧ ¬(4 ≤ s.det.clips ∧ lenientOf s = false) ∧ t ≤ q ∧ e2 ≤ 4 * e6 ∧
      e6 ≤ 4 * e2 ∧ 3 * q ≤ 4 * (e2 + e6)
    let rise := isTrunkEnd s = true ∧ s.link.setupMode = false ∧ 300 ≤ s.trunk.silence ∧ ring = true
    ∃ u, exec (.blockEnd loaded ring code o) s = .next u ∧ u.det.floor = s.det.floor ∧
      u.rx = s.rx ∧ u.frame = ⟨0, s.frame.tickPos⟩ ∧
      u.conds.overdrive = (s.conds.overdrive || decide (n % 4 = 0 ∧ 4 ≤ s.det.clips)) ∧
      (s.doze.dozing = true →
        (passed ∨ rise → u.doze = ⟨false, 0⟩ ∧ u.det.mode = .full) ∧
        (¬(passed ∨ rise) → u.doze = s.doze ∧ u.det.mode = .doze ((n + 1) % 4))) ∧
      (s.doze.dozing = false → u.doze.dozing = false ∧ u.det.mode = .full)) ∧
  (∀ s : State, s.powered = true →
    (s.doze = ⟨false, 100⟩ →
      exec .dozeEntry s = .next
        { s with doze := ⟨true, 100⟩, det := { s.det with mode := .doze 0 } }) ∧
    (s.doze.dozing = true ∨ s.doze.count = 100 →
      exec .setupStartBit s = .next { s with doze := ⟨false, 0⟩ }) ∧
    (s.doze.dozing = false → s.doze.count < 100 → exec .setupStartBit s = .next s))

/-! ## The line code -/

/-- R2: the index of a pair is its position in the lexicographic list of the 28 pairs, 0 to 27. -/
def Obligations.PairIndexIsItsPosition : Prop :=
  (∀ i j : Tone, i < j →
    (Pair.mk i j).index = i.val * (15 - i.val) / 2 + (j.val - i.val - 1) ∧
    (Pair.mk i j).index < 28 ∧ pairOf (Pair.mk i j).index = ⟨i, j⟩) ∧
  (∀ n, n < 28 → (pairOf n).lo < (pairOf n).hi ∧ (pairOf n).index = n) ∧
  ∀ i j k l : Tone, i < j → k < l →
    ((Pair.mk i j).index < (Pair.mk k l).index ↔ i < k ∨ i = k ∧ j < l)

/-- R12: a well-formed word is valid exactly when all five tests of the table hold. -/
def Obligations.WordIsValidByTheFiveTests : Prop :=
  ∀ (w : LineWord) (check : Code), w.arg.isSome = w.kind.hasArgument →
    (wordValid w check = true ↔
      (1 ≤ w.src.val ∧ w.src.val ≤ 15) ∧ w.src ≠ w.dst ∧
      (1 ≤ w.dst.val ∧ w.dst.val ≤ 15 ∨ w.kind = .brk) ∧
      (∀ a, w.arg = some a →
        (w.kind = .ring → a.val ≤ 2) ∧ (w.kind = .refuse → a.val ≤ 4)) ∧
      check.val = (w.kind.ordinal + w.dst.val + w.src.val + (w.arg.getD 0).val) % 16)

/-- R3, R5, R9, R11, R43, R44, R46: the symbols that the part sends for a word, taken one by one by a receiver that has just opened a word, complete that very word: it is taken as valid when it is, with its own mark, and the record is removed. -/
def Obligations.SentSymbolsCompleteTheWordSent : Prop :=
  ∀ (w : LineWord) (own : Bool) (o : DeliveryOrder) (s : State),
    w.arg.isSome = w.kind.hasArgument → s.rx.word = some (openedWord own) →
    w.symbols.length = (if w.kind.hasArgument then 6 else 5) ∧ w.symbols.head? = some 16 ∧
    w.symbols.foldl (fun t i => placeSymbol i o t) s =
      (if wordValid w (checkDigit w.kind w.dst w.src w.arg) then
        takeValidWord own w o { s with rx := { s.rx with word := none } }
      else { s with rx := { s.rx with word := none }, conds := { s.conds with brokenWord := true } })

/-! ## Word Receiver -/

/-- R36 to R40, R43, R45, R48 and the table of section 3.2: the records and the unusable count after a decision, in every stage. Acceptance of ATTN opens a word and discards one in assembly with BROKEN-WORD; a held symbol that closes is emitted unless void; a silent block outside a symbol raises the gap count of a word past its opening; the word's own mark is cleared by a block outside a transmission. The third UNUSABLE is UNUSABLE_LIMIT's, and the limits of length are OVER_LONG_SYMBOL's and STUCK_TONE's (log 2). -/
def Obligations.SymbolStageFollowsItsTable : Prop :=
  ∀ (p q : Pair) (own void inTx : Bool) (n : Nat) (o : DeliveryOrder) (s : State),
    let after (d : Decision) := (rxDecide d inTx o s).rx
    let broken (d : Decision) := (rxDecide d inTx o s).conds.brokenWord
    let marked := s.rx.word.map (fun r => { r with own := r.own && inTx })
    let gapped := marked.map (fun r =>
      if r.place = .opening then r else { r with gap := r.gap + 1 })
    (s.rx.symbol = .idle →
      (after (.pair p)).symbol = .candidate p inTx ∧ (after .unusable).symbol = .idle ∧
      (after (.pair p)).word = marked) ∧
    (s.rx.symbol = .candidate p own →
      (after (.pair p)).symbol = .held p 2 (own && inTx) false ∧
      (p ≠ ⟨2, 6⟩ → (after (.pair p)).word = marked) ∧
      (p = ⟨2, 6⟩ →
        (after (.pair p)).word = some ⟨.opening, none, none, none, none, 0, own && inTx⟩ ∧
        broken (.pair p) = (s.conds.brokenWord || s.rx.word.isSome)) ∧
      (q ≠ p → (after (.pair q)).symbol = .candidate q inTx ∧ (after (.pair q)).word = marked) ∧
      (after .unusable).symbol = .candidate p (own && inTx)) ∧
    (s.rx.symbol = .held p n own void →
      (after (.pair p)).symbol =
        (if void then .held p n own true
        else .held p (min (if p = ⟨2, 6⟩ then 51 else 7) (n + 1)) own false) ∧
      (after (.pair p)).word = marked ∧
      (q ≠ p → (after (.pair q)).symbol = .candidate q inTx ∧ (after (.pair q)).word = none ∧
        broken (.pair q) = (s.conds.brokenWord || s.rx.word.isSome)) ∧
      (∀ d, d = .silent ∨ d = .noise →
        rxDecide d inTx o s =
          (if void then { s with rx := ⟨.idle, marked, 0⟩ }
          else placeSymbol p.index o { s with rx := ⟨.idle, marked, 0⟩ })) ∧
      (after .unusable).symbol = .held p n own void) ∧
    (s.rx.symbol = .idle ∨ s.rx.symbol = .candidate p own →
      ∀ d, d = .silent ∨ d = .noise → rxDecide d inTx o s = { s with rx := ⟨.idle, gapped, 0⟩ }) ∧
    (after .unusable).word = marked ∧
    (after .silent).symbol = .idle ∧ (after .noise).symbol = .idle ∧
    (after .overlap).symbol = .idle ∧
    (after (.pair p)).unusable = 0 ∧ (after .silent).unusable = 0 ∧ (after .noise).unusable = 0 ∧
    (after .overlap).unusable = 0 ∧ (after .unusable).unusable = s.rx.unusable + 1

/-- R40: an OVERLAP decision breaks reception at once. -/
def Obligations.OverlapBreaksReception : Prop :=
  ∀ (inTx : Bool) (o : DeliveryOrder) (s : State),
    rxDecide .overlap inTx o s =
      { s with
        rx := ⟨.idle, none, 0⟩
        conds := { s.conds with brokenWord := s.conds.brokenWord || s.rx.word.isSome } }

/-- R39, R41, R42, R45: UNUSABLE_LIMIT, OVER_LONG_SYMBOL, STUCK_TONE and GAP_LIMIT, each at its limit. -/
def Obligations.ReceiverLimitsAct : Prop :=
  ∀ s : State, s.powered = true →
    let broken := s.conds.brokenWord || s.rx.word.isSome
    (3 ≤ s.rx.unusable →
      exec .unusableLimit s = .next
        { s with rx := ⟨.idle, none, 0⟩, conds := { s.conds with brokenWord := broken } }) ∧
    (∀ p n own, p ≠ ⟨2, 6⟩ → 7 ≤ n → s.rx.symbol = .held p n own false →
      exec .overLongSymbol s = .next
        { s with
          rx := ⟨.held p n own true, none, s.rx.unusable⟩
          conds := { s.conds with brokenWord := broken } }) ∧
    (∀ n own, 51 ≤ n → s.rx.symbol = .held ⟨2, 6⟩ n own false →
      exec .stuckTone s = .next
        { s with
          rx := ⟨.held ⟨2, 6⟩ n own true,
            if (s.rx.word.map (·.place)) = some .opening then none else s.rx.word, s.rx.unusable⟩
          conds := { s.conds with stuckTone := true } }) ∧
    (∀ r, s.rx.word = some r → 6 ≤ r.gap →
      exec .gapLimit s = .next
        { s with
          rx := { s.rx with word := none }
          conds := { s.conds with brokenWord := true } })

/-- R44: where an emitted symbol is placed. A symbol that fits fills the field, moves the place and starts the gap count again; one that does not fit breaks the word; with no word it is a stray. -/
def Obligations.EmittedSymbolIsPlaced : Prop :=
  ∀ (i : Nat) (o : DeliveryOrder) (s : State) (r : WordRecord),
    let put (r' : WordRecord) := { s with rx := { s.rx with word := some r' } }
    let broken :=
      { s with
        rx := { s.rx with word := none }
        conds := { s.conds with brokenWord := true } }
    (s.rx.word = none → placeSymbol i o s = s) ∧
    (s.rx.word = some r →
      (∀ k : Kind, r.place = .kind → i = 18 + k.ordinal →
        placeSymbol i o s = put { r with kind := some k, place := .toCode, gap := 0 }) ∧
      (∀ d : Code, r.place = .toCode → i = d.val →
        placeSymbol i o s = put { r with dst := some d, place := .fromCode, gap := 0 }) ∧
      (∀ (d : Code) (k : Kind), r.place = .fromCode → r.kind = some k → i = d.val →
        placeSymbol i o s =
          put { r with
            src := some d, gap := 0
            place := if k = .ring ∨ k = .refuse then .argument else .check }) ∧
      (∀ d : Code, r.place = .argument → i = d.val →
        placeSymbol i o s = put { r with arg := some d, place := .check, gap := 0 }) ∧
      (r.place = .kind → (i < 18 ∨ 24 < i) → placeSymbol i o s = broken) ∧
      (r.place ≠ .opening → r.place ≠ .kind → 15 < i → placeSymbol i o s = broken))

/-- R46, R49 to R51: a completed word is tested; a valid one sets CLASH when it is not own and comes from the own code, and in ordinary service goes to the Line View, and to the two call units when it is not own and addressed to this station, in the order that the operand gives (log 6); an invalid one sets BROKEN-WORD. -/
def Obligations.ValidWordIsDelivered : Prop :=
  ∀ (own : Bool) (w : LineWord) (o : DeliveryOrder) (s : State),
    let t := { s with
      conds := { s.conds with
        clash := s.conds.clash || (!own && decide (ownCode s = some w.src)) } }
    (inService s = false → takeValidWord own w o s = t) ∧
    (inService s = true → own = true ∨ ownCode s ≠ some w.dst →
      takeValidWord own w o s = viewWord own w t) ∧
    (inService s = true → own = false → ownCode s = some w.dst →
      takeValidWord own w o s = inOrder o (viewWord own w) (auWord w) (ruWord w) t ∧
      (w.kind ≠ .ring → w.kind ≠ .poll → w.kind ≠ .clear → ∀ u, auWord w u = u) ∧
      (w.kind = .ring ∨ w.kind = .poll ∨ w.kind = .brk → ∀ u, ruWord w u = u)) ∧
    (∀ (r : WordRecord) (check : Code), r.word = some w → wordValid w check = false →
      completeWord r check o s =
        { s with
          rx := { s.rx with word := none }
          conds := { s.conds with brokenWord := true } })

/-! ## Word Transmitter -/

/-- R72, R73, R85: QUEUE of a word other than a CLEAR: it takes the place of a queued word to the same station, or joins the tail, or is dropped from a full lane with LANE-FULL set; offline it is refused. A CLEAR takes its place in the prompt lane the same way and is refused offline too; one that is placed also removes the queued RING and POLL words to its station, tells the owners that are other blocks, and leaves the entry in flight; a CLEAR dropped from a full lane removes nothing. -/
def Obligations.QueuePlacesTheWord : Prop :=
  (∀ (o : Agent) (k : Kind) (dst own : Code) (arg : Option Code) (s : State), k ≠ .clear →
    let w : LineWord := ⟨k, dst, own, arg⟩
    let l : Lane := if k = .ring ∨ k = .poll then .request else .prompt
    let depth := if k = .ring ∨ k = .poll then 2 else 4
    (s.settings = none ∨ s.link.setupMode = true → queue o k dst arg s = s) ∧
    (ownCode s = some own → s.link.setupMode = false →
      (∀ pre e post, s.tx.queued l = pre ++ e :: post → e.word.dst = dst →
        (∀ x ∈ pre, x.word.dst ≠ dst) →
        queue o k dst arg s =
          { s with
            tx := s.tx.setEntries l
              (s.tx.flying l ++ pre ++ { e with word := w, owner := o } :: post)
            inbox := s.inbox ++
              (if e.owner = o then [] else [.abandoned e.owner e.word .displaced]) }) ∧
      ((∀ x ∈ s.tx.queued l, x.word.dst ≠ dst) →
        ((s.tx.entries l).length < depth →
          queue o k dst arg s =
            { s with tx := s.tx.setEntries l (s.tx.entries l ++ [⟨w, o, 0, 0, false⟩]) }) ∧
        (depth ≤ (s.tx.entries l).length →
          queue o k dst arg s =
            { s with
              conds := { s.conds with laneFull := true }
              inbox := s.inbox ++ [.abandoned o w .full] })))) ∧
  (∀ (o : Agent) (dst : Code) (s : State), s.settings = none ∨ s.link.setupMode = true →
    queue o .clear dst none s = s) ∧
  (∀ (o : Agent) (dst own : Code) (s : State), ownCode s = some own → s.link.setupMode = false →
    let gone := (s.tx.queued .request).filter (fun e => decide (e.word.dst = dst))
    let t := queue o .clear dst none s
    (∀ pre e post, s.tx.queued .prompt = pre ++ e :: post → e.word.dst = dst →
      (∀ x ∈ pre, x.word.dst ≠ dst) →
      t.tx.prompt = s.tx.flying .prompt ++ pre ++
        { e with word := ⟨.clear, dst, own, none⟩, owner := o } :: post ∧
      (e.owner ≠ o → .abandoned e.owner e.word .displaced ∈ t.inbox)) ∧
    ((∀ x ∈ s.tx.queued .prompt, x.word.dst ≠ dst) → s.tx.prompt.length < 4 →
      t.tx.prompt = s.tx.prompt ++ [⟨⟨.clear, dst, own, none⟩, o, 0, 0, false⟩]) ∧
    ((∃ x ∈ s.tx.queued .prompt, x.word.dst = dst) ∨ s.tx.prompt.length < 4 →
      t.tx.request.map (·.word) =
        (s.tx.flying .request).map (·.word) ++
          ((s.tx.queued .request).filter (fun e => decide (e.word.dst ≠ dst))).map (·.word) ∧
      ∀ e ∈ gone, e.owner ≠ o → .abandoned e.owner e.word .displaced ∈ t.inbox) ∧
    ((∀ x ∈ s.tx.queued .prompt, x.word.dst ≠ dst) → 4 ≤ s.tx.prompt.length →
      t = { s with
        conds := { s.conds with laneFull := true }
        inbox := s.inbox ++ [.abandoned o ⟨.clear, dst, own, none⟩ .full] }))

/-- R74, R77: WITHDRAW(X) removes from both lanes every queued entry of that owner to X and nothing else, and sends no notice; the entry that so becomes the first queued one has wait count 0. -/
def Obligations.WithdrawRemovesTheOwnersWords : Prop :=
  ∀ (o : Agent) (x : Code) (s : State),
    let kept (es : List Entry) :=
      es.filter (fun e => !(decide (e.owner = o) && decide (e.word.dst = x)))
    let text (es : List Entry) := es.map (fun e => (e.word, e.owner, e.attempts, e.retry))
    let t := withdraw o x s
    (∀ l, text (t.tx.entries l) = text (s.tx.flying l ++ kept (s.tx.queued l))) ∧
    (∀ l e es, s.tx.queued l = e :: es →
      (¬(e.owner = o ∧ e.word.dst = x) →
        t.tx.entries l = s.tx.flying l ++ kept (s.tx.queued l)) ∧
      (e.owner = o → e.word.dst = x → ∀ f rest, kept es = f :: rest →
        t.tx.entries l = s.tx.flying l ++ { f with wait := 0 } :: rest)) ∧
    t.tx = { s.tx with prompt := t.tx.prompt, request := t.tx.request } ∧
    OnlyParts [.tx] s t

/-- R76 to R79: CHECKED_ATTEMPT_START of the candidate, once the start stands due (the model's form, log 2), and TALK_OVER of the prompt lane's head. ATTN's hold begins on both line voices at the line level. -/
def Obligations.AttemptStartsWithAttn : Prop :=
  ∀ (s : State) (l : Lane) (e : Entry) (rest : List Entry), s.powered = true →
    inService s = true → s.tx.attempt = none → s.tx.entries l = e :: rest →
    let sent (checked : Bool) :=
      { s with
        tx := { s.tx.setEntries l ({ e with attempts := e.attempts + 1, retry := false } :: rest) with
          attempt := some ⟨l, 0, checked⟩, quiet := 0, startDue := false }
        engine := { s.engine with
          v0 := ⟨true, 0, 7782, lineLevel s⟩, v1 := ⟨true, 0, 16384, lineLevel s⟩ } }
    (s.tx.startDue = true →
      (l = .prompt ∧ (e.retry = true ∨ headMarked s.tx.request = false) ∨
        l = .request ∧ (s.tx.prompt = [] ∨ e.retry = true ∧ headMarked s.tx.prompt = false)) →
      exec .checkedAttemptStart s = .next (sent true)) ∧
    (l = .prompt → 100 ≤ e.wait → exec .talkOver s = .next (sent false))

/-- R76, R77, R81: REQUEST_WAIT_LIMIT removes the request lane's head and tells its owner; a decision taken while waiting makes a start due on quiet (which CHECKED_ATTEMPT_START then takes: the model's form, log 2) or raises each head's wait count up to its limit, and one taken in a back-off lowers it (that of the block in which setup entry stopped an attempt holds the quiet count at 0: deduced, log 41); BACK_OFF_END applies the waiting rules to the lanes as they stand. -/
def Obligations.WaitingEndsOrGoesOn : Prop :=
  ∀ s : State, s.powered = true →
    let raised (limit : Nat) (es : List Entry) : List Entry :=
      match es with
      | [] => []
      | e :: rest => { e with wait := min limit (e.wait + 1) } :: rest
    let empty := s.tx.prompt = [] ∧ s.tx.request = []
    (∀ e rest, s.tx.request = e :: rest → 250 ≤ e.wait → s.tx.inFlight .request = false →
      exec .requestWaitLimit s = .next
        (finish
          { s with
            tx := { s.tx with
              request := match rest with
                | [] => []
                | f :: more => { f with wait := 0 } :: more }
            inbox := s.inbox ++ [.abandoned e.owner e.word .noisy] })) ∧
    (s.tx.backOffDue = true →
      (empty → exec .backOffEnd s = .next { s with tx := { s.tx with backOffDue := false } }) ∧
      (¬empty → s.tx.quiet = 3 →
        exec .backOffEnd s =
          .next { s with tx := { s.tx with backOffDue := false, startDue := true } }) ∧
      (¬empty → s.tx.quiet ≠ 3 →
        exec .backOffEnd s = .next
          { s with
            tx := { s.tx with
              backOffDue := false
              prompt := raised 100 s.tx.prompt, request := raised 250 s.tx.request } })) ∧
    ∀ d : Decision, s.tx.attempt = none →
      let quiet := if d = .silent ∧ s.tx.cutBlock = false then min 3 (s.tx.quiet + 1) else 0
      (s.tx.backOff = 0 →
        (empty → txDecide d s = { s with tx := { s.tx with quiet := quiet } }) ∧
        (¬empty → quiet = 3 →
          txDecide d s = { s with tx := { s.tx with quiet := quiet, startDue := true } }) ∧
        (¬empty → quiet ≠ 3 →
          txDecide d s =
            { s with
              tx := { s.tx with
                quiet := quiet
                prompt := raised 100 s.tx.prompt, request := raised 250 s.tx.request } })) ∧
      (s.tx.backOff ≠ 0 →
        txDecide d s =
          { s with
            tx := { s.tx with
              quiet := quiet, backOff := s.tx.backOff - 1
              backOffDue := decide (s.tx.backOff = 1) } })

/-- R75: the quiet count after a decision. The decision of a block in which the entry to setup mode stopped an attempt is not spoken of here (log 41). -/
def Obligations.QuietCountFollowsTheDecisions : Prop :=
  ∀ (d : Decision) (s : State),
    (s.tx.attempt = none → s.tx.cutBlock = false → d = .silent →
      (txDecide d s).tx.quiet = min 3 (s.tx.quiet + 1)) ∧
    (s.tx.attempt = none → d ≠ .silent → (txDecide d s).tx.quiet = 0) ∧
    (s.tx.attempt ≠ none → (txDecide d s).tx.quiet = 0)

/-- R80: the echo check, position by position of the span. -/
def Obligations.EchoCheckFollowsItsTable : Prop :=
  ∀ (w : LineWord) (pos : Nat) (d : Decision), w.arg.isSome = w.kind.hasArgument → pos < w.span →
    let passes := echoPasses w pos d
    let must (i : Nat) := (passes = true ↔ d = .pair (pairOf i))
    (pos ∈ [0, 10, 15, 20, 25, 30] → passes = true) ∧
    (1 ≤ pos ∧ pos ≤ 7 → (passes = true ↔ d = .pair ⟨2, 6⟩)) ∧
    (pos ∈ [11, 12] → must (18 + w.kind.ordinal)) ∧ (pos ∈ [16, 17] → must w.dst.val) ∧
    (pos ∈ [21, 22] → must w.src.val) ∧
    (pos ∈ [26, 27] →
      must (w.arg.getD (checkDigit w.kind w.dst w.src none)).val) ∧
    (pos ∈ [31, 32] → must (checkDigit w.kind w.dst w.src w.arg).val) ∧
    (pos ∈ [8, 9, 13, 14, 18, 19, 23, 24, 28, 29, 33, 34] →
      (passes = true ↔ d = .silent ∨ d = .noise ∨ d = .unusable))

/-- R78, R82: a decision that the attempt passes moves it on, with HOLD at the start of each hold and GAP at its end, and at the end of the word's last gap the entry leaves its lane and its owner is told. -/
def Obligations.AttemptGoesOnAndWordIsSent : Prop :=
  ∀ (a : Attempt) (e : Entry) (rest : List Entry) (d : Decision) (s : State),
    s.tx.attempt = some a → s.tx.entries a.lane = e :: rest →
    (a.checked = true → echoPasses e.word a.pos d = true) →
    (a.pos + 1 < e.word.span → inService s = true →
      let n := a.pos + 1
      let p := e.word.pairAt ((n - 10) / 5 + 1)
      let after (v : Engine) :=
        { s with tx := { s.tx with attempt := some ⟨a.lane, n, a.checked⟩, quiet := 0 }, engine := v }
      (10 ≤ n → n % 5 = 0 →
        txDecide d s = after
          { s.engine with
            v0 := ⟨true, 0, tonePhaseStep p.lo, lineLevel s⟩
            v1 := ⟨true, 0, tonePhaseStep p.hi, lineLevel s⟩ }) ∧
      (n = 8 ∨ 10 ≤ n ∧ n % 5 = 3 →
        txDecide d s = after
          { s.engine with
            v0 := { s.engine.v0 with play := false }, v1 := { s.engine.v1 with play := false } }) ∧
      (n < 8 ∨ n = 9 ∨ 10 ≤ n ∧ n % 5 ≠ 0 ∧ n % 5 ≠ 3 → txDecide d s = after s.engine)) ∧
    (e.word.span ≤ a.pos + 1 →
      txDecide d s =
        { s with
          tx := { s.tx.setEntries a.lane (promote rest) with attempt := none, quiet := 0 }
          inbox := s.inbox ++ [.sent e.owner e.word] })

/-- R81: a failed echo check. Below five attempts the word, or the newer word queued to the same station, waits out its back-off with the retry mark; at the fifth the word is given up. -/
def Obligations.SpoiledAttemptBacksOffOrGivesUp : Prop :=
  ∀ (a : Attempt) (e : Entry) (rest : List Entry) (d : Decision) (own : Code) (s : State),
    inService s = true → ownCode s = some own → s.tx.attempt = some a → a.checked = true →
    s.tx.entries a.lane = e :: rest → echoPasses e.word a.pos d = false →
    let after (es : List Entry) (backOff : Nat) :=
      { s with
        tx := { s.tx.setEntries a.lane es with attempt := none, quiet := 0, backOff := backOff }
        engine := { s.engine with
          v0 := { s.engine.v0 with play := false }, v1 := { s.engine.v1 with play := false } } }
    (e.attempts < 5 → (∀ x ∈ rest, x.word.dst ≠ e.word.dst) →
      txDecide d s =
        after ({ e with wait := 0, retry := true } :: rest) ((4 + own.val) * e.attempts)) ∧
    (∀ pre x post, e.attempts < 5 → rest = pre ++ x :: post → x.word.dst = e.word.dst →
      (∀ y ∈ pre, y.word.dst ≠ e.word.dst) →
      txDecide d s =
        { after
            ({ e with word := x.word, owner := x.owner, wait := 0, retry := true } :: (pre ++ post))
            ((4 + own.val) * e.attempts) with
          inbox := s.inbox ++
            (if e.owner = x.owner then [] else [.abandoned e.owner e.word .displaced]) }) ∧
    (5 ≤ e.attempts →
      txDecide d s =
        { after (promote rest) 0 with
          conds := { s.conds with sendAbandoned := true }
          inbox := s.inbox ++ [.abandoned e.owner e.word .spoiled] })

/-! ## Tone Engine -/

/-- R61 to R63, R65, R67, R68: START, STOP-NOW and STOP-AT-CYCLE. A refused START raises lost alone; an accepted one loads the voice, and the script it replaces is lost to another block that started it. A stop by the script's starter: STOP-NOW leaves the voice idle without a finish, its phase, step and counts of ticks as they were (deduced, log 26), and voice 3 raises ringer free; STOP-AT-CYCLE sets the stop pending alone. A stop by another block, or of an idle voice, is ignored. -/
def Obligations.StartIsTakenByRank : Prop :=
  (∀ (a : Agent) (sc : Script) (s : State),
    let c := s.engine.voice sc.voice
    let barred := sc.voice = .earpiece ∧ s.engine.offHook = false ∨
      sc.voice = .ringer ∧ (isTrunkEnd s = true ∨ inService s = false)
    let outranked := ∃ old, c.script = some old ∧ sc.rank < old.rank
    (barred ∨ outranked →
      start a sc s = { s with inbox := s.inbox ++ [.lost a sc] }) ∧
    (¬(barred ∨ outranked) →
      start a sc s =
        { s with
          engine := s.engine.setVoice sc.voice
            { c with
              play := true, script := some sc, index := 0, remaining := 0, plays := 1
              stopPending := false, starter := some a, begun := false
              level := if sc.voice = .earpiece then 10 else c.level }
          inbox := s.inbox ++
            (match c.script, c.starter with
              | some old, some b => if b = a then [] else [.lost b old]
              | _, _ => []) })) ∧
  (∀ (a : Agent) (v : ScriptVoice) (s : State),
    let c := s.engine.voice v
    (c.script ≠ none ∧ c.starter = some a →
      stopNow a v s =
        { s with
          engine := s.engine.setVoice v
            { c with
              play := false, script := none, starter := none, plays := 0, stopPending := false
              begun := false }
          inbox := s.inbox ++ (if v = .ringer then [.ringerFree] else []) } ∧
      stopAtCycle a v s =
        { s with engine := s.engine.setVoice v { c with stopPending := true } }) ∧
    (¬(c.script ≠ none ∧ c.starter = some a) → stopNow a v s = s ∧ stopAtCycle a v s = s))

/-- R57 to R60, R67, R112, R113, R122: SCRIPT_STEP_END on either voice, the timed step over. The next SOUND or QUIET step begins; a MARK and REPEAT 0 begin step 0 again, REPEAT n below its count begins it with one play more, and REPEAT n at its count, or a MARK with a stop pending, ends the script with finish, and on voice 3 ringer free after it (the model's order, log 7); the idle voice keeps the fields that R60 does not name (deduced, log 26). At the MARK of the Answer Unit's ringer script a ringing cycle is counted, and of its URGENT-CALL a mark, four to a cycle; at the limit the slot is EXPIRED and the voice stops. When another block's script ends on voice 3 while the slot rings on-hook, the class's ringer script starts again. -/
def Obligations.ScriptStepEndBeginsTheNextStep : Prop :=
  (∀ (v : ScriptVoice) (sc : Script) (s : State), Ready s →
    let c := s.engine.voice v
    let put (c' : CadenceVoice) : State := { s with engine := s.engine.setVoice v c' }
    let ended : State :=
      { put { c with
          play := false, script := none, starter := none, plays := 0, stopPending := false
          begun := false } with
        inbox := (match c.starter with
          | some a => [.finish a sc]
          | none => []) ++ (if v = .ringer then [.ringerFree] else []) }
    c.script = some sc → c.begun = true → c.remaining = 0 →
    (∀ p n, sc.steps[c.index + 1]? = some (.sound p n) →
      exec (.scriptStepEnd v) s = .next (followDial
        (put { c with index := c.index + 1, remaining := n, step := p.step, phase := 0 }))) ∧
    (∀ n, sc.steps[c.index + 1]? = some (.quiet n) →
      exec (.scriptStepEnd v) s = .next (followDial
        (put { c with index := c.index + 1, remaining := n }))) ∧
    (∀ p k n, sc.steps[c.index + 1]? = some .mark → sc.steps[c.index + 2]? = some (.again n) →
      sc.steps[0]? = some (.sound p k) → c.stopPending = false →
      c.starter ≠ some .answerUnit ∨ sc.voice = .earpiece ∧ sc ≠ .urgentCall →
      (n = 0 →
        exec (.scriptStepEnd v) s = .next (followDial
          (put { c with index := 0, remaining := k, step := p.step, phase := 0 }))) ∧
      (1 ≤ n → c.plays < n →
        exec (.scriptStepEnd v) s = .next (followDial
          (put { c with
            index := 0, remaining := k, step := p.step, phase := 0, plays := c.plays + 1 }))) ∧
      (1 ≤ n → n ≤ c.plays → exec (.scriptStepEnd v) s = .next (finish ended))) ∧
    (sc.steps[c.index + 1]? = some .mark → c.stopPending = true →
      exec (.scriptStepEnd v) s = .next (finish ended))) ∧
  (∀ (sc : Script) (call : Call) (p : Pitch) (n : Nat) (s : State), Ready s →
    let c := s.engine.bell
    s.answer.slot = some call → call.phase = .ringing .ringer → sc.voice = .ringer →
    c.script = some sc → c.starter = some .answerUnit → c.begun = true → c.remaining = 0 →
    c.stopPending = false → sc.steps[c.index + 1]? = some .mark →
    sc.steps[c.index + 2]? = some (.again 0) → sc.steps[0]? = some (.sound p n) →
    (call.cycles + 1 < cycleLimit s →
      exec (.scriptStepEnd .ringer) s = .next (followDial
        { s with
          engine := { s.engine with
            bell := { c with index := 0, remaining := n, step := p.step, phase := 0 } }
          answer := { s.answer with slot := some { call with cycles := call.cycles + 1 } } })) ∧
    (cycleLimit s ≤ call.cycles + 1 →
      exec (.scriptStepEnd .ringer) s = .next (followDial
        { s with
          engine := { s.engine with
            bell := { c with
              play := false, script := none, starter := none, plays := 0, stopPending := false
              begun := false } }
          answer := { s.answer with
            slot := some { call with phase := .expired, cycles := call.cycles + 1 } } }))) ∧
  (∀ (call : Call) (s : State), Ready s →
    let c := s.engine.ear
    let slot (call' : Call) (c' : CadenceVoice) : State :=
      { s with
        engine := { s.engine with ear := c' }, answer := { s.answer with slot := some call' } }
    let again : CadenceVoice := { c with index := 0, remaining := 10, step := 14746, phase := 0 }
    s.answer.slot = some call → call.phase = .ringing .earpiece → c.script = some .urgentCall →
    c.starter = some .answerUnit → c.begun = true → c.remaining = 0 → c.stopPending = false →
    c.index = 2 →
    (call.marks < 3 →
      exec (.scriptStepEnd .earpiece) s = .next (followDial
        (slot { call with marks := call.marks + 1 } again))) ∧
    (3 ≤ call.marks → call.cycles + 1 < cycleLimit s →
      exec (.scriptStepEnd .earpiece) s = .next (followDial
        (slot { call with marks := 0, cycles := call.cycles + 1 } again))) ∧
    (3 ≤ call.marks → cycleLimit s ≤ call.cycles + 1 →
      exec (.scriptStepEnd .earpiece) s = .next (followDial
        (slot { call with phase := .expired, marks := 0, cycles := call.cycles + 1 }
          { c with
            play := false, script := none, starter := none, plays := 0, stopPending := false
            begun := false })))) ∧
  (∀ (sc : Script) (call : Call) (a : Agent) (p : Pitch) (k n : Nat) (s : State), Ready s →
    let c := s.engine.bell
    s.answer.slot = some call → call.phase = .ringing .ringer → s.answer.offHook = false →
    isTrunkEnd s = false → inService s = true → sc.voice = .ringer → c.script = some sc →
    c.starter = some a → a ≠ .answerUnit → c.begun = true → c.remaining = 0 →
    c.stopPending = false → sc.steps[c.index + 1]? = some .mark →
    sc.steps[c.index + 2]? = some (.again n) → sc.steps[0]? = some (.sound p k) →
    1 ≤ n → n ≤ c.plays →
    exec (.scriptStepEnd .ringer) s = .next (followDial
      { s with
        engine := { s.engine with
          bell := { c with
            play := true, index := 0, remaining := 0, plays := 1, stopPending := false
            starter := some .answerUnit, begun := false
            script := some (match call.cls with
              | .ordinary => .ring (ringCadence s)
              | .trunk => .trunk
              | .urgent => .urgent) } } }))

/-! ## Line View -/

/-- R95, R92, R100, R101: LINE_IDLE frees a view HELD or BROKEN at the 50th unloaded block; PRIVACY is released, with the lockout tone that the view started, and TRUNK_CONNECT opens. -/
def Obligations.LineIdleFreesTheView : Prop :=
  ∀ s : State, Ready s → s.view.idle = 50 → s.view.record ≠ .free →
    let t := if s.out.privacy && decide (s.engine.ear.script = some .lockout)
      then stopNow .lineView .earpiece s else s
    exec .lineIdle s = .next (followDial
      { t with
        view := { s.view with record := .free }
        out := { s.out with privacy := false, trunkConnect := false } })

/-- R89, R90, R99: a RING is remembered, its caller's entry replaced and the new one first in the list (the model's order, log 36), class 1 from another station than 15 as ordinary; a REFUSE removes the ring between the two; neither changes anything else. An ANSWER from `y` to `x` reaching a view in FREE or HELD: the record, the idle count, and the ring memory, from which the ring between the two is removed. The class is that of the ring memory's entry for caller `x` and called `y`, ordinary without one. When the view so passes to held by others, that event goes once to the Answer Unit and once to the Request Unit, with the parties as they now stand (in the model's order, log 7). -/
def Obligations.AnswerReachesAFreeOrHeldView : Prop :=
  (∀ (own : Bool) (x y : Code) (arg : Option Code) (s : State),
    let k : CallClass :=
      if arg = some 2 then .urgent else if arg = some 1 ∧ x = 15 then .trunk else .ordinary
    viewWord own ⟨.ring, y, x, arg⟩ s =
      { s with view := { s.view with
        rings := ⟨x, y, k⟩ :: s.view.rings.filter (fun e => decide (e.caller ≠ x)) } } ∧
    viewWord own ⟨.refuse, x, y, arg⟩ s =
      { s with view := { s.view with
        rings := s.view.rings.filter (fun e =>
          !decide (e.caller = x ∧ e.called = y ∨ e.caller = y ∧ e.called = x)) } }) ∧
  (∀ (own : Bool) (x y : Code) (s : State),
    let found := classFound s.view.rings x y
    let t := viewWord own ⟨.answer, x, y, none⟩ s
    let taken := t.view.record = .held x y found ∧ t.view.idle = 0
    let kept := t.view.record = s.view.record ∧ t.view.idle = s.view.idle
    (∀ pre e post, s.view.rings = pre ++ e :: post → e.caller = x → e.called = y →
      (∀ r ∈ pre, ¬(r.caller = x ∧ r.called = y)) → found = e.cls) ∧
    ((∀ r ∈ s.view.rings, ¬(r.caller = x ∧ r.called = y)) → found = .ordinary) ∧
    (s.view.record = .free → taken) ∧
    (∀ a b k, s.view.record = .held a b k →
      (a = x ∧ b = y → kept) ∧
      (¬(a = x ∧ b = y) → isParty s = true → ownCode s ≠ some x → ownCode s ≠ some y → kept) ∧
      (¬(a = x ∧ b = y) →
        isParty s = false ∨ ownCode s = some x ∨ ownCode s = some y → taken)) ∧
    (s.view.record.isFree = true ∨ (∃ a b k, s.view.record = .held a b k) →
      t.view.rings = s.view.rings.filter (fun e => !e.between x y) ∧
      t.view.pendingClear = s.view.pendingClear ∧ t.view.offHook = s.view.offHook)) ∧
  (∀ (own : Bool) (x y : Code) (s : State),
    let t := viewWord own ⟨.answer, x, y, none⟩ s
    let passed := heldByOthers s = false ∧ heldByOthers t = true
    ∃ tones, (∀ e ∈ tones, ∃ a sc, e = .lost a sc) ∧
      (passed → t.inbox = s.inbox ++
        [.heldByOthers .answerUnit (some (x, y)), .heldByOthers .requestUnit (some (x, y))] ++ tones) ∧
      (¬passed → t.inbox = s.inbox ++ tones)) ∧
  (∀ (ab : Option (Code × Code)) (s : State),
    takeEvent (.heldByOthers .answerUnit ab) s = auHeldByOthers s ∧
    takeEvent (.heldByOthers .requestUnit ab) s = ruHeldByOthers s)

/-- R91: an ANSWER from `y` to `x` reaching a view in BROKEN, by the first row that applies. -/
def Obligations.AnswerReachesABrokenView : Prop :=
  ∀ (own : Bool) (x y k g : Code) (ab : Option (Code × Code)) (s : State),
    s.view.record = .broken k g ab →
    let found := classFound s.view.rings x y
    let t := viewWord own ⟨.answer, x, y, none⟩ s
    let kept := t.view.record = s.view.record ∧ t.view.idle = s.view.idle
    (y = g ∧ x = k → t.view.record = .held x y .urgent ∧ t.view.idle = 0) ∧
    (¬(y = g ∧ x = k) → ab = some (x, y) → kept) ∧
    (¬(y = g ∧ x = k) → ab ≠ some (x, y) →
      (isInvolved s = true → ownCode s ≠ some x → ownCode s ≠ some y → kept) ∧
      (isInvolved s = false ∨ ownCode s = some x ∨ ownCode s = some y →
        t.view.record = .held x y found ∧ t.view.idle = 0)) ∧
    t.view.rings = s.view.rings.filter (fun e => !e.between x y)

/-- R92: a CLEAR from `p` to `q`, another station's or with no clear of this view pending, applied to the view by the table. -/
def Obligations.ClearIsAppliedToTheView : Prop :=
  ∀ (own : Bool) (p q : Code) (s : State), own = false ∨ s.view.pendingClear = none →
    let t := viewWord own ⟨.clear, q, p, none⟩ s
    let kept := t.view.record = s.view.record
    let freed := t.view.record = .free
    let between (a b : Code) := p = a ∧ q = b ∨ p = b ∧ q = a
    (s.view.record = .free → freed) ∧
    (∀ a b c, s.view.record = .held a b c →
      (between a b → freed) ∧ (¬between a b → kept)) ∧
    (∀ k g ab, s.view.record = .broken k g ab →
      (p = k ∨ p = g → freed) ∧
      (∀ a b, ab = some (a, b) → between a b → freed) ∧
      (p ≠ k → p ≠ g → (∀ a b, ab = some (a, b) → ¬between a b) → kept)) ∧
    t.view.idle = s.view.idle ∧ t.view.pendingClear = s.view.pendingClear ∧
    t.view.offHook = s.view.offHook ∧
    t.view.rings = s.view.rings.filter (fun e => !e.between q p)

/-- R93, R94, R99: a BREAK from `k` to station `g` makes the view BROKEN and keeps the parties of a held call. A party or the target, not the breaker, is warned by BREAK-WARN, unless URGENT-CALL of another block plays on voice 2. When the view so passes to held by others, that event goes once to the Answer Unit and once to the Request Unit, with the parties as they now stand (in the model's order, log 7); otherwise it goes to neither. A BREAK to code 0 leaves the view as it is and rings ALERT unless it is own. -/
def Obligations.BreakReachesTheView : Prop :=
  ∀ (own : Bool) (k g : Code) (s : State),
    let t := viewWord own ⟨.brk, g, k, none⟩ s
    (g ≠ 0 →
      (s.view.record = .free → t.view.record = .broken k g none ∧ t.view.idle = 0) ∧
      (∀ a b c, s.view.record = .held a b c →
        t.view.record = .broken k g (some (a, b)) ∧ t.view.idle = s.view.idle) ∧
      (∀ k' g' ab, s.view.record = .broken k' g' ab →
        t.view.record = .broken k g ab ∧ t.view.idle = s.view.idle) ∧
      t.view.rings = s.view.rings ∧ t.view.pendingClear = s.view.pendingClear ∧
      (let ab := s.view.record.parties
      let broken := setView (.broken k g ab)
        (if s.view.record = .free then { s with view := { s.view with idle := 0 } } else s)
      let warned := ownCode s ≠ none ∧ ownCode s ≠ some k ∧ (ownCode s = some g ∨
        ∃ a b, ab = some (a, b) ∧ (ownCode s = some a ∨ ownCode s = some b))
      let calling := s.engine.ear.script = some .urgentCall ∧ s.engine.ear.starter ≠ some .lineView
      (warned → ¬calling → t = start .lineView .breakWarn broken) ∧
      (¬warned ∨ calling → t = broken))) ∧
    (let ab := s.view.record.parties
    let passed := heldByOthers s = false ∧ heldByOthers t = true
    ∃ tones, (∀ e ∈ tones, ∃ a sc, e = .lost a sc) ∧
      (passed → t.inbox = s.inbox ++
        [.heldByOthers .answerUnit ab, .heldByOthers .requestUnit ab] ++ tones) ∧
      (¬passed → t.inbox = s.inbox ++ tones)) ∧
    (g = 0 → t = if own then s else start .lineView .alert s)

/-- R92, R96 to R98: RELEASE of a party of the view queues a CLEAR to the other party and sets the pending clear; a HANG-UP does the same with the view's hook on-hook; for another station the RELEASE is ignored. That CLEAR heard, sent or abandoned settles the pending clear, and frees the view when its parties are still those stored. Otherwise a notice leaves the view as it is, and the CLEAR heard does to it what another station's would; a notice or a CLEAR of this station's that names another code settles nothing. -/
def Obligations.OwnClearIsPendingUntilSettled : Prop :=
  (∀ (own a b : Code) (s : State), ownCode s = some own →
    let clear (other : Code) (u : State) :=
      let t := queue .lineView .clear other none u
      { t with view := { t.view with pendingClear := some ⟨other, a, b⟩ } }
    let down := refreshOutputs { s with view := { s.view with offHook := false } }
    (s.view.record.parties = some (a, b) → own = a →
      viewRelease s = clear b s ∧ viewHangUp s = clear b down) ∧
    (s.view.record.parties = some (a, b) → own = b → own ≠ a →
      viewRelease s = clear a s ∧ viewHangUp s = clear a down) ∧
    (isParty s = false → viewRelease s = s ∧ viewHangUp s = down)) ∧
  (∀ (p : PendingClear) (w : LineWord) (s : State), s.view.pendingClear = some p → w.kind = .clear →
    (w.dst = p.dst →
      (viewNotice w s).view.pendingClear = none ∧
      (s.view.record.parties = some (p.a, p.b) → (viewNotice w s).view.record = .free) ∧
      (s.view.record.parties ≠ some (p.a, p.b) →
        viewNotice w s = { s with view := { s.view with pendingClear := none } }) ∧
      (viewWord true w s).view.pendingClear = none ∧
      (s.view.record.parties = some (p.a, p.b) → (viewWord true w s).view.record = .free) ∧
      (s.view.record.parties ≠ some (p.a, p.b) →
        (viewWord true w s).view.record = (viewWord false w s).view.record) ∧
      (viewWord true w s).view.idle = s.view.idle ∧
      (viewWord true w s).view.offHook = s.view.offHook ∧
      (viewWord true w s).view.rings = s.view.rings.filter (fun e => !e.between w.src w.dst)) ∧
    (w.dst ≠ p.dst → viewNotice w s = s ∧ viewWord true w s = viewWord false w s))

/-! ## Answer Unit -/

/-- R106, R116 to R118, R123: COMPLETION_HOLD_EXPIRY, LINGER_EXPIRY and POLL_LOSS_EXPIRY, the slot's timer over. The slot is EMPTY, the Answer Unit's queued words to the caller are withdrawn, and the sounding is the one each rule gives. -/
def Obligations.SlotExpiriesEmptyTheSlot : Prop :=
  ∀ (c : Call) (s : State), Ready s → s.answer.slot = some c → c.timer = 0 →
    let gone := withdraw .answerUnit c.caller { s with answer := { s.answer with slot := none } }
    (c.phase = .answered →
      exec .completionHoldExpiry s = .next (finish (start .answerUnit .callerGone gone))) ∧
    (c.phase = .delivered → exec .lingerExpiry s = .next (followDial gone)) ∧
    (c.phase = .ringing .ringer →
      exec .pollLossExpiry s = .next (followDial (stopAtCycle .answerUnit .ringer gone))) ∧
    (c.phase = .ringing .earpiece →
      exec .pollLossExpiry s = .next (followDial (stopNow .answerUnit .earpiece gone))) ∧
    (c.phase = .expired → exec .pollLossExpiry s = .next (followDial gone))

/-- R107, R111: a POLL from `x`, or a RING from the slot's own caller, is answered by the slot alone. -/
def Obligations.PollIsAnsweredByTheTable : Prop :=
  ∀ (x : Code) (k : CallClass) (s : State),
    let put (c : Call) (u : State) : State := { u with answer := { u.answer with slot := some c } }
    (∀ c, s.answer.slot = some c → c.caller = x →
      auRing x k s = auPoll x s ∧
      (∀ v, c.phase = .ringing v →
        auPoll x s = put { c with timer := 500 } (queue .answerUnit .hold x none s)) ∧
      (c.phase = .answered →
        auPoll x s = stopNow .answerUnit .earpiece
          (put { c with phase := .delivered, timer := 200 } (queue .answerUnit .answer x none s))) ∧
      (c.phase = .delivered →
        auPoll x s = put { c with timer := 200 } (queue .answerUnit .answer x none s)) ∧
      (c.phase = .expired →
        ∃ t, t = queue .answerUnit .refuse x (some 2) s ∧
          auPoll x s = { t with answer := { t.answer with slot := none } })) ∧
    (s.answer.slot.map (·.caller) ≠ some x →
      auPoll x s = queue .answerUnit .refuse x (some 1) s)

/-- R107 to R110, R154: a RING from `x`, a caller that the slot does not hold, by the first test that decides it, at a farm and at the trunk-end; what a farm's EMPTY slot then does with it, and the trunk-end's, by the first row that applies. A preempted caller's RING is refused BUSY like any other that meets another station's call (the model's choice, log 47), and the trunk-end queues HOLD before it gives RELEASE (the model's choice, log 48). -/
def Obligations.RingIsTakenOrRefused : Prop :=
  (∀ (x own : Code) (k : CallClass) (s : State),
    s.answer.slot.map (·.caller) ≠ some x → ownCode s = some own →
    let refused (r : Code) := auRing x k s = queue .answerUnit .refuse x (some r) s
    let free := ∀ r, s.request.record = some r → r.called ≠ x
    let held := queue .answerUnit .hold x none
    let into (c : Call) (u : State) : State := { u with answer := { u.answer with slot := some c } }
    let busy := s.request.record ≠ none ∨ s.request.pendingBreak ≠ none
    (∀ r, s.request.record = some r → r.called = x →
      (r.state = .requesting ∨ r.state = .waiting →
        (own < x → refused 4) ∧ (x ≤ own → auRing x k s = auRing x k (dropRequest x s))) ∧
      (r.state ≠ .requesting → r.state ≠ .waiting → refused 0)) ∧
    (free →
      (∀ c, s.answer.slot = some c →
        (k = .urgent ∧ (∃ v, c.phase = .ringing v) ∧ c.cls ≠ .urgent →
          auRing x k s = held (start .answerUnit .urgent
            (into ⟨.ringing .ringer, x, .urgent, 0, 0, 500⟩ (withdraw .answerUnit c.caller s)))) ∧
        (¬(k = .urgent ∧ (∃ v, c.phase = .ringing v) ∧ c.cls ≠ .urgent) → refused 0)) ∧
      (s.answer.slot = none →
        (k ≠ .urgent → isInvolved s = true → refused 0) ∧
        (k ≠ .urgent → heldByOthers s = true → refused 3) ∧
        (k ≠ .urgent → s.view.record = .free → s.answer.offHook = true → busy → refused 0) ∧
        (own = 15 → k = .urgent ∨ s.view.record = .free ∧ (s.answer.offHook = false ∨ ¬busy) →
          auRing x k s = trunkEndRing x k s) ∧
        (own ≠ 15 → k = .urgent ∨ s.view.record = .free → s.answer.offHook = false →
          auRing x k s = start .answerUnit
            (match k with
              | .ordinary => .ring (ringCadence s)
              | .trunk => .trunk
              | .urgent => .urgent)
            (into ⟨.ringing .ringer, x, k, 0, 0, 500⟩ (held s))) ∧
        (own ≠ 15 → k = .urgent ∨ s.view.record = .free → s.answer.offHook = true →
          isInvolved s = false → ¬busy →
          auRing x k s = start .answerUnit .answerWait (into ⟨.answered, x, k, 0, 0, 300⟩ (held s))) ∧
        (own ≠ 15 → k = .urgent → s.answer.offHook = true → isInvolved s = true ∨ busy →
          auRing x k s = start .answerUnit .urgentCall
            (into ⟨.ringing .earpiece, x, .urgent, 0, 0, 500⟩ (held s)))))) ∧
  (∀ (x : Code) (k : CallClass) (s : State),
    let refused := trunkEndRing x k s = queue .answerUnit .refuse x (some 0) s
    let t := queue .answerUnit .hold x none s
    let taken := { t with answer := { t.answer with slot := some ⟨.answered, x, k, 0, 0, 300⟩ } }
    let barred := k = .ordinary ∧ s.trunk.silence < 300 ∧ s.trunk.latched ≠ some x
    (s.request.record ≠ none → refused) ∧
    (s.request.record = none → barred → refused) ∧
    (s.request.record = none → ¬barred → k = .urgent → isParty s = true →
      trunkEndRing x k s = viewRelease taken) ∧
    (s.request.record = none → ¬barred → ¬(k = .urgent ∧ isParty s = true) →
      trunkEndRing x k s = taken))

/-- R113 to R115, R119 to R121: what an off-hook report, a FLASH, a HANG-UP, a CLEAR from the caller and held by others do to the call in the slot, in every state of it, and to the EMPTY slot. A call that is answered keeps its marks (the model's choice, log 42). -/
def Obligations.SlotFollowsHookClearAndLine : Prop :=
  (∀ (c : Call) (s : State), s.answer.slot = some c →
    let slot (x : Option Call) (hook : Bool) (u : State) : State :=
      { u with answer := ⟨x, hook⟩ }
    let lifted := slot (some { c with phase := .answered, timer := 300 })
    (c.phase = .ringing .ringer →
      auOffHook s = start .answerUnit .answerWait (stopNow .answerUnit .ringer (lifted true s)) ∧
      auClear c.caller s = withdraw .answerUnit c.caller
        (stopAtCycle .answerUnit .ringer (slot none s.answer.offHook s)) ∧
      auHangUp s = slot (some c) false s ∧ auFlash s = s ∧
      (c.cls ≠ .urgent →
        auHeldByOthers s = queue .answerUnit .refuse c.caller (some 3)
          (stopAtCycle .answerUnit .ringer (slot none s.answer.offHook s))) ∧
      (c.cls = .urgent → auHeldByOthers s = s)) ∧
    (c.phase = .ringing .earpiece →
      auFlash s = viewRelease (start .answerUnit .answerWait
        (stopNow .answerUnit .earpiece (lifted s.answer.offHook s))) ∧
      auHangUp s = start .answerUnit .urgent
        (slot (some { c with phase := .ringing .ringer, marks := 0 }) false s) ∧
      auClear c.caller s = withdraw .answerUnit c.caller
        (stopNow .answerUnit .earpiece (slot none s.answer.offHook s)) ∧
      (c.cls = .urgent → auHeldByOthers s = s)) ∧
    (c.phase = .answered →
      auOffHook s = stopNow .answerUnit .ringer (slot (some c) true s) ∧
      auHangUp s = { queue .answerUnit .clear c.caller none (slot (some c) false s) with
        answer := ⟨none, false⟩ } ∧
      auClear c.caller s = withdraw .answerUnit c.caller
        (start .answerUnit .callerGone (slot none s.answer.offHook s)) ∧
      auHeldByOthers s = s ∧ auFlash s = s) ∧
    (c.phase = .delivered →
      auOffHook s = stopNow .answerUnit .ringer (slot (some c) true s) ∧
      (viewClears c.caller s = true →
        auHangUp s = withdraw .answerUnit c.caller (slot none false s)) ∧
      (viewClears c.caller s = false →
        auHangUp s = { queue .answerUnit .clear c.caller none (slot (some c) false s) with
          answer := ⟨none, false⟩ }) ∧
      auClear c.caller s = withdraw .answerUnit c.caller (slot none s.answer.offHook s) ∧
      auHeldByOthers s = s ∧ auFlash s = s) ∧
    (c.phase = .expired →
      auOffHook s = stopNow .answerUnit .ringer (slot (some c) true s) ∧
      auHangUp s = slot (some c) false s ∧ auFlash s = s ∧ auHeldByOthers s = s ∧
      auClear c.caller s = withdraw .answerUnit c.caller (slot none s.answer.offHook s)) ∧
    ∀ x, x ≠ c.caller → auClear x s = s) ∧
  (∀ s : State, s.answer.slot = none →
    auOffHook s = stopNow .answerUnit .ringer { s with answer := ⟨none, true⟩ } ∧
    auHangUp s = { s with answer := ⟨none, false⟩ } ∧ auFlash s = s ∧ auHeldByOthers s = s ∧
    ∀ x, auClear x s = s)

/-! ## Request Unit -/

/-- R131, R133 to R135, R137, R138, R141, R143: RING_REPLY_EXPIRY, DELAY_EXPIRY, POLL_REPLY_EXPIRY, REVERT_EXPIRY and SHOW_EXPIRY, the wait's time over; and the notices that the Request Unit takes: a RING or POLL sent loads the REPLY wait, one abandoned fails the request or counts a missed poll; the pending BREAK sent begins the urgent call or finds the slot taken, and abandoned fails it with no RING sent (the model's count, log 17); an alert sent or abandoned sounds CLEARED or ERROR, in FAILED too (the model's choice, log 45); finish of ERROR while FAILED and off-hook sounds ERROR again. -/
def Obligations.RecordExpiriesActByStateAndWait : Prop :=
  (∀ (r : Request) (s : State), Ready s → s.request.record = some r → r.timer = 0 →
    let put (r' : Request) (u : State) : State := { u with request := { u.request with record := some r' } }
    let sending : Request := { r with wait := .sending, timer := 0 }
    (r.state = .requesting → r.wait = .reply → r.sends < 3 →
      exec .ringReplyExpiry s = .next (finish (put { sending with sends := r.sends + 1 }
        (queue .requestUnit .ring r.called (some r.cls.digit) s)))) ∧
    (r.state = .requesting → r.wait = .reply → 3 ≤ r.sends →
      exec .ringReplyExpiry s = .next (finish (failRequest r .noStation false s))) ∧
    (r.state = .waiting → r.wait = .delay →
      exec .delayExpiry s = .next (finish (put sending (queue .requestUnit .poll r.called none s)))) ∧
    (r.state = .waiting → r.wait = .reply → r.misses + 1 < 3 →
      exec .pollReplyExpiry s = .next (finish (put { sending with misses := r.misses + 1 }
        (queue .requestUnit .poll r.called none s)))) ∧
    (r.state = .waiting → r.wait = .reply → 3 ≤ r.misses + 1 →
      exec .pollReplyExpiry s = .next (finish (failRequest r .lost true s))) ∧
    (r.state = .reverting → r.wait = .revert →
      exec .revertExpiry s = .next (finish (failRequest r .noAnswer true s))) ∧
    (∀ why, r.state = .failed why → r.wait = .showing →
      exec .showExpiry s = .next (followDial { s with request := { s.request with record := none } }))) ∧
  (∀ (w : LineWord) (s : State),
    let sent := takeEvent (.sent .requestUnit w) s
    let abandoned (cause : AbandonCause) := takeEvent (.abandoned .requestUnit w cause) s
    let unbroken : State := { s with request := { s.request with pendingBreak := none } }
    (w.kind = .brk → w.dst = 0 →
      sent = start .requestUnit .cleared s ∧
      ∀ cause, abandoned cause = start .requestUnit .error s) ∧
    (w.kind = .brk → w.dst ≠ 0 →
      (s.request.pendingBreak ≠ some w.dst → sent = s ∧ ∀ cause, abandoned cause = s) ∧
      (s.request.pendingBreak = some w.dst →
        (s.answer.slot = none →
          sent = { queue .requestUnit .ring w.dst (some 2) unbroken with
            request := { unbroken.request with
              record := some ⟨.requesting, w.dst, .urgent, 1, 0, false, false, .sending, 0⟩ } }) ∧
        (s.answer.slot ≠ none → sent = stopNow .requestUnit .earpiece unbroken) ∧
        ∀ cause, abandoned cause = failRequest
          ⟨.requesting, w.dst, .urgent, 0, 0, false, false, .sending, 0⟩ .noisy false unbroken)) ∧
    (w.kind = .ring ∨ w.kind = .poll → s.request.record = none →
      sent = s ∧ ∀ cause, abandoned cause = s) ∧
    (w.kind ≠ .ring → w.kind ≠ .poll → w.kind ≠ .brk → sent = s ∧ ∀ cause, abandoned cause = s) ∧
    ∀ r, s.request.record = some r →
      let loaded : State :=
        { s with request := { s.request with record := some { r with wait := .reply, timer := 100 } } }
      (w.kind = .ring →
        (r.state = .requesting ∧ r.wait = .sending ∧ r.called = w.dst → sent = loaded) ∧
        (¬(r.state = .requesting ∧ r.wait = .sending ∧ r.called = w.dst) → sent = s) ∧
        (r.state = .requesting ∧ r.called = w.dst →
          ∀ cause, abandoned cause = failRequest r .noisy false s) ∧
        (¬(r.state = .requesting ∧ r.called = w.dst) → ∀ cause, abandoned cause = s)) ∧
      (w.kind = .poll →
        (r.state = .waiting ∧ r.wait = .sending ∧ r.called = w.dst →
          sent = loaded ∧
          (r.misses + 1 < 3 → ∀ cause, abandoned cause =
            { queue .requestUnit .poll r.called none s with
              request := { s.request with
                record := some { r with wait := .sending, timer := 0, misses := r.misses + 1 } } }) ∧
          (3 ≤ r.misses + 1 → ∀ cause, abandoned cause = failRequest r .lost true s)) ∧
        (¬(r.state = .waiting ∧ r.wait = .sending ∧ r.called = w.dst) →
          sent = s ∧ ∀ cause, abandoned cause = s))) ∧
  (∀ (sc : Script) (s : State),
    let t := takeEvent (.finish .requestUnit sc) s
    let failed := ∃ r why, s.request.record = some r ∧ r.state = .failed why
    (failed ∧ sc = .error ∧ s.request.offHook = true → t = start .requestUnit .error s) ∧
    (¬(failed ∧ sc = .error ∧ s.request.offHook = true) → t = s))

/-- R142: a record entering FAILED keeps its called code and class, records the reason, clears misses and flags, withdraws its words or queues CLEAR, and off-hook starts its tone and stops waiting, on-hook waits 500 blocks. -/
def Obligations.FailedRecordShowsItsReason : Prop :=
  ∀ (r : Request) (why : FailReason) (withClear : Bool) (s : State),
    let t := failRequest r why withClear s
    let off := s.request.offHook
    let tone : Script := if why = .busy ∨ why = .locked then .busy else .error
    t.request = { s.request with
      record := some { r with
        state := .failed why, misses := 0, away := false, relifted := false
        wait := if off then .stopped else .showing, timer := if off then 0 else 500 } } ∧
    t.tx = (if withClear then queue .requestUnit .clear r.called none s
      else withdraw .requestUnit r.called s).tx ∧
    (off = false → r.state ≠ .reverting → t.engine = s.engine) ∧
    (off = false → r.state = .reverting → t.engine = (stopNow .requestUnit .ringer s).engine) ∧
    (off = true → r.state ≠ .reverting → t.engine = (start .requestUnit tone s).engine) ∧
    (off = true → r.state = .reverting →
      t.engine = (start .requestUnit tone (stopNow .requestUnit .ringer s)).engine) ∧
    OnlyParts [.request, .tx, .engine, .conds, .inbox] s t

/-- R131, R136, R137, R140, R141, R144: a matching reply, by the record's state; a reply from a station that the record does not name is ignored. An ANSWER to an on-hook caller begins REVERTING with misses at 0, and with away and relifted clear, as the worked example of section 8.13 shows (deduced, log 18). -/
def Obligations.RepliesMoveTheRecord : Prop :=
  ∀ (r : Request) (w : LineWord) (s : State), s.request.record = some r →
    let put (r' : Option Request) (u : State) : State := { u with request := { u.request with record := r' } }
    let drop := withdraw .requestUnit r.called
    (r.called ≠ w.src → ruWord w s = s) ∧
    (r.called = w.src → r.state = .requesting ∨ r.state = .waiting →
      (w.kind = .hold →
        let t := drop (put (some { r with
          state := .waiting, misses := 0, wait := .delay, timer := 100 }) s)
        ruWord w s = if s.request.offHook then start .requestUnit .ringback t else t) ∧
      (w.kind = .refuse →
        (w.arg = some 0 → ruWord w s = failRequest r .busy false s) ∧
        (w.arg = some 1 → ruWord w s = failRequest r .noCall false s) ∧
        (w.arg = some 2 → ruWord w s = failRequest r .noAnswer false s) ∧
        (w.arg = some 3 → ruWord w s = failRequest r .locked false s) ∧
        (w.arg = some 4 → ruWord w s =
          put none (stopNow .requestUnit .earpiece (drop s)))) ∧
      (w.kind = .clear → ruWord w s = failRequest r .noAnswer false s) ∧
      (w.kind = .answer →
        (r.cls = .trunk → ruWord w s = put none (drop s)) ∧
        (r.cls ≠ .trunk → s.request.offHook = true →
          ruWord w s = stopNow .requestUnit .earpiece (put none (drop s))) ∧
        (r.cls ≠ .trunk → s.request.offHook = false →
          ruWord w s = start .requestUnit .revert (put (some { r with
            state := .reverting, misses := 0, away := false, relifted := false, wait := .revert
            timer := 250 * (s.settings.map (·.revert)).getD 6 }) (drop s))))) ∧
    (r.called = w.src → r.state = .reverting →
      (w.kind = .clear → ruWord w s = failRequest r .noAnswer false s) ∧
      (w.kind ≠ .clear → ruWord w s = s)) ∧
    (∀ why, r.state = .failed why → ruWord w s = s)

/-- R133, R139, R141, R143, R145: what HANG-UP, an off-hook report and held by others do to the record with no break pending, and to the NONE record. A HANG-UP with a break pending first cancels it: the BREAK, if still queued, is withdrawn, and the pending break becomes absent; an off-hook report and held by others leave it. -/
def Obligations.RecordFollowsHookAndLine : Prop :=
  (∀ (r : Request) (s : State), s.request.record = some r → s.request.pendingBreak = none →
    let put (x : Option Request) (hook : Bool) (u : State) : State :=
      { u with request := ⟨x, none, hook⟩ }
    let abandoned (hook : Bool) :=
      put none hook (queue .requestUnit .clear r.called none (put (some r) hook s))
    let underWay := r.state = .requesting ∨ r.state = .waiting
    (underWay →
      (r.relifted = true → ruHangUp s = abandoned false) ∧
      (r.relifted = false →
        ruHangUp s = put (some { r with away := true }) false s) ∧
      (r.away = true → slotAnswerable s = true → ruOffHook s = abandoned true) ∧
      (r.away = true → slotAnswerable s = false →
        ruOffHook s = start .requestUnit .ringback (put (some { r with relifted := true }) true s)) ∧
      (r.away = false → ruOffHook s = put (some r) true s) ∧
      (r.cls ≠ .urgent → ruHeldByOthers s = failRequest r .locked true s) ∧
      (r.cls = .urgent → ruHeldByOthers s = s)) ∧
    (r.state = .reverting →
      ruHangUp s = put (some r) false s ∧ ruHeldByOthers s = s ∧
      (slotAnswerable s = false →
        ruOffHook s = stopNow .requestUnit .ringer (put none true s)) ∧
      (slotAnswerable s = true →
        ruOffHook s = failRequest r .busy true (put (some r) true s))) ∧
    (∀ why, r.state = .failed why →
      ruHangUp s = put (some { r with wait := .showing, timer := 500 }) false s ∧
      ruHeldByOthers s = s ∧
      (r.wait = .showing →
        ruOffHook s = start .requestUnit why.tone
          (put (some { r with wait := .stopped, timer := 0 }) true s)))) ∧
  (∀ (x : Code) (s : State), s.request.pendingBreak = some x →
    let cancelled : State :=
      { withdraw .requestUnit x s with request := { s.request with pendingBreak := none } }
    ruHangUp s = ruHangUp cancelled ∧
    ∀ e ∈ cancelled.tx.queued .prompt, ¬(e.owner = .requestUnit ∧ e.word.dst = x)) ∧
  (∀ s : State, s.request.record = none →
    (s.request.pendingBreak = none →
      ruHangUp s = { s with request := ⟨none, none, false⟩ }) ∧
    ruOffHook s = { s with request := { s.request with offHook := true } } ∧
    ruHeldByOthers s = s)

/-! ## Dial Decoder -/

/-- R53, R57, R58, R125 to R129, R161 to R163, R168: TICK, the tick's 80 samples taken, with nothing due. Both script voices are stepped, HOOK is read, the power-on count and the gap timer move, and the lamp is refreshed. The station coded 15 reads no HOOK: its raw level, raw run and on-hook period stay as they are (deduced, log 13). Elsewhere the on-hook period rises at every tick under ON-HOOK, before HOOK is read, the tick whose third closed reading ends it among them (the model's choice, log 14). The power-on count is held at 5999 with ENTRY_WINDOW_CLOSE due for its last rise (the model's choice, log 2). While dialling is open DIAL is read under the hook state before a change due at this tick (log 44): an opening and a closure are counted, a bounce of 1 or 2 ticks joins the closure (deduced, log 15), an opening of 3 or more that ends is left for PULSE, in BARRED the run of closed ticks is counted, and the digit wait falls; on-hook they are held, and otherwise the dialling is discarded, a BARRED dial state with it but not on-hook (deduced, log 16). A TICK before 80 samples changes nothing (the model's choice, log 3), and one that finds a restart due is that restart alone (the model's choice, log 5). -/
def Obligations.TickMovesTheTickCounts : Prop :=
  (∀ (h d : Bool) (s : State), Ready s → NothingDue s → 80 ≤ s.frame.tickPos →
    let x := s.dial
    let opened := x.hook = .offHook ∧ s.request.record = none ∧ s.request.pendingBreak = none ∧
      isParty s = false ∧ s.answer.slot = none ∧ s.settings ≠ none ∧ s.link.setupMode = false
    ∃ t, exec (.tick h d) s = .next t ∧ t.frame = ⟨s.frame.pos, 0⟩ ∧
      t.pins = { s.pins with hookClosed := h, dialClosed := d } ∧
      t.link = { s.link with
        powerOn := if s.link.powerOn < 5999 then s.link.powerOn + 1 else s.link.powerOn
        windowDue := s.link.windowDue || decide (s.link.powerOn = 5999)
        gap := s.link.gap - 1 } ∧
      t.lamp = s.lamp.next (chosenPattern s) ∧ t.dial.hook = x.hook ∧
      (isTrunkEnd s = false →
        t.dial.rawLevel = some h ∧
        t.dial.rawRun = (if x.rawLevel = some h then min 3 (x.rawRun + 1) else 1) ∧
        t.dial.period = (if x.hook = .onHook ∧ x.period < 80 then x.period + 1 else x.period)) ∧
      (isTrunkEnd s = true →
        t.dial.rawLevel = x.rawLevel ∧ t.dial.rawRun = x.rawRun ∧ t.dial.period = x.period) ∧
      (opened →
        t.dial.state = x.state ∧ t.dial.pulses = x.pulses ∧ t.dial.buffer = x.buffer ∧
        t.dial.digitWait = x.digitWait.map (· - 1) ∧
        (x.state ≠ .barred →
          (d = false → t.dial.opening = min 11 (x.opening + 1) ∧ t.dial.closure = x.closure) ∧
          (d = true → x.opening < 3 →
            t.dial.opening = 0 ∧ t.dial.closure = min 30 (x.closure + x.opening + 1)) ∧
          (d = true → 3 ≤ x.opening → t.dial.opening = x.opening ∧ t.dial.closure = x.closure)) ∧
        (x.state = .barred →
          t.dial.opening = 0 ∧ t.dial.closure = if d then min 30 (x.closure + 1) else 0)) ∧
      (x.hook = .onHook →
        t.dial.state = x.state ∧ t.dial.pulses = x.pulses ∧ t.dial.opening = x.opening ∧
        t.dial.closure = x.closure ∧ t.dial.buffer = x.buffer ∧ t.dial.digitWait = x.digitWait) ∧
      (¬opened → x.hook ≠ .onHook →
        t.dial.state = .idle ∧ t.dial.pulses = 0 ∧ t.dial.opening = 0 ∧ t.dial.closure = 0 ∧
        t.dial.buffer = [] ∧ t.dial.digitWait = none) ∧
      (∀ v : ScriptVoice,
        let c := s.engine.voice v
        (c.script = none → t.engine.voice v = c) ∧
        (∀ sc, c.script = some sc → c.begun = true →
          t.engine.voice v = { c with remaining := c.remaining - 1 }) ∧
        (∀ sc p n, c.script = some sc → c.begun = false → sc.steps[0]? = some (.sound p n) →
          t.engine.voice v =
            { c with index := 0, remaining := n, step := p.step, phase := 0, begun := true })) ∧
      OnlyParts [.pins, .frame, .engine, .dial, .link, .lamp] s t) ∧
  (∀ (h d : Bool) (s : State), s.powered = true →
    (s.frame.tickPos < 80 → exec (.tick h d) s = .next s) ∧
    (80 ≤ s.frame.tickPos → settleButRestart s = s → restartDue s = true →
      exec (.tick h d) s = exec .restartAfterReply
        { s with pins := { s.pins with hookClosed := h, dialClosed := d } }))

/-- R62, R64, R87, R105, R125 to R127, R167: HOOK_DEBOUNCED_CHANGE on a farm station, with no HANG_UP due (one that is comes first: the model's choice, log 14): to ON-HOOK from a start or a lift, and to OFF-HOOK after a bounce, a flash, a hang-up or a start. A change to ON-HOOK keeps a BARRED dial state (deduced, log 16), and a lift wakes a dozing station or takes back a doze entry that is due (the model's choice, log 21). The on-hook period is 0 once the handset is lifted (the model's choice, log 43). HANG_UP, in whatever order the blocks take it: every hook item reads on-hook, voice 2 is idle, and the dialling is discarded, a BARRED dial state with it (deduced, log 16). -/
def Obligations.HookIsDebouncedAndReported : Prop :=
  (∀ (o : DeliveryOrder) (s : State), Ready s → isTrunkEnd s = false → s.dial.rawRun = 3 →
    s.dial.hangUpDue = false →
    let awake := if s.doze.dozing = true ∨ s.doze.count = 100 then ⟨false, 0⟩ else s.doze
    let lifted := { s with doze := awake, dial := { s.dial with hook := .offHook, period := 0 } }
    (s.dial.rawLevel = some false → s.dial.hook = .unknown →
      exec (.hookDebouncedChange o) s = .next
        { s with dial := { s.dial with hook := .onHook, period := 80 } }) ∧
    (s.dial.rawLevel = some false → s.dial.hook = .offHook →
      exec (.hookDebouncedChange o) s = .next
        { s with dial := { s.dial with
          hook := .onHook, period := 0, pulses := 0, opening := 0, closure := 0
          state := if s.dial.state = .counting then .idle else s.dial.state } }) ∧
    (s.dial.rawLevel = some true → s.dial.hook = .onHook → s.dial.period < 20 →
      exec (.hookDebouncedChange o) s = .next (followDial lifted)) ∧
    (s.dial.rawLevel = some true → s.dial.hook = .onHook → 20 ≤ s.dial.period →
      s.dial.period < 80 →
      exec (.hookDebouncedChange o) s = .next (finish (auFlash
        { lifted with dial := { lifted.dial with buffer := [], digitWait := none } }))) ∧
    (s.dial.rawLevel = some true →
      s.dial.hook = .unknown ∨ s.dial.hook = .onHook ∧ 80 ≤ s.dial.period →
      ∃ t, exec (.hookDebouncedChange o) s = .next t ∧ t.dial.hook = .offHook ∧
        t.dial.period = 0 ∧ t.doze = awake ∧ t.engine.offHook = true ∧ t.view.offHook = true ∧
        t.answer.offHook = true ∧ t.request.offHook = true)) ∧
  (∀ (o : DeliveryOrder) (s : State), Ready s → s.dial.hangUpDue = true →
    ∃ t, exec (.hangUp o) s = .next t ∧ t.engine.offHook = false ∧ t.view.offHook = false ∧
      t.answer.offHook = false ∧ t.request.offHook = false ∧ t.request.pendingBreak = none ∧
      t.engine.ear.script = none ∧ t.dial.hook = s.dial.hook ∧ t.dial.state = .idle ∧
      t.dial.pulses = 0 ∧ t.dial.opening = 0 ∧ t.dial.closure = 0 ∧ t.dial.buffer = [] ∧
      t.dial.digitWait = none ∧ t.dial.hangUpDue = false ∧
      OnlyParts [.dial, .engine, .view, .answer, .request, .out, .tx, .conds, .inbox] s t)

/-- R127, R128: PULSE, INVALID_DIGIT and BARRED_RELEASE. -/
def Obligations.PulsesAreCountedAndInvalidDigitsBarred : Prop :=
  ∀ s : State, Ready s →
    let put (d : DialDecoder) : State := { s with dial := d }
    let ended := s.pins.dialClosed = true ∧ 3 ≤ s.dial.opening ∧ s.dial.opening ≤ 10
    (diallingOpen s = true → s.dial.state ≠ .barred → ended → s.dial.pulses < 10 →
      exec .pulse s = .next (put { s.dial with
        pulses := s.dial.pulses + 1, state := .counting, opening := 0, closure := 0
        digitWait := none })) ∧
    (diallingOpen s = true → s.dial.state ≠ .barred →
      s.dial.opening = 11 ∨ ended ∧ 10 ≤ s.dial.pulses →
      exec .invalidDigit s = .next
        { start .dialDecoder .error (put { s.dial with
            pulses := 0, opening := 0, closure := 0, buffer := [], digitWait := none
            state := .barred }) with inbox := [] }) ∧
    (s.dial.state = .barred → s.dial.closure = 30 →
      exec .barredRelease s = .next (put { s.dial with state := .idle }))

/-- R128 to R130, R132 to R134: the dial plan at a digit's end and when the digit wait runs out, for every digit. DIGIT_END and DIGIT_WAIT_EXPIRY read the buffer by it, and a destination goes through the checks in their order. -/
def Obligations.DialledNumberIsSettled : Prop :=
  ((∀ d : Fin 10, 2 ≤ d.val →
    dialPlan [d] = .call false (Fin.ofNat 16 d) ∧ dialPlan [0, d] = .call true (Fin.ofNat 16 d)) ∧
  dialPlan [1] = .incomplete ∧ dialPlan [0] = .incomplete ∧ dialPlan [0, 1] = .incomplete ∧
  dialPlan [0, 0] = .alert ∧
  (∀ d : Fin 10, d.val ≤ 5 →
    dialPlan [1, d] = .call false (Fin.ofNat 16 (10 + d)) ∧
    dialPlan [0, 1, d] = .call true (Fin.ofNat 16 (10 + d))) ∧
  (∀ d : Fin 10, 6 ≤ d.val → dialPlan [1, d] = .wrong ∧ dialPlan [0, 1, d] = .wrong) ∧
  dialPlanAtWait [1] = .call false 1 ∧ dialPlanAtWait [0, 1] = .call true 1 ∧
  dialPlanAtWait [0] = .wrong) ∧
  ((∀ s : State, Ready s → diallingOpen s = true →
    let put (d : DialDecoder) : State := { s with dial := d }
    let digits := s.dial.buffer ++ [if s.dial.pulses = 10 then 0 else s.dial.pulses]
    (s.dial.state = .counting → s.dial.closure = 30 →
      exec .digitEnd s = .next (finish (settleDialling (dialPlan digits)
        (put { s.dial with buffer := digits, pulses := 0, state := .idle })))) ∧
    (s.dial.digitWait = some 0 →
      exec .digitWaitExpiry s = .next (finish (settleDialling (dialPlanAtWait s.dial.buffer)
        (put { s.dial with digitWait := none }))))) ∧
  ∀ (x : Code) (s : State),
    let clean (u : State) : State :=
      { u with dial := { u.dial with
        state := .idle, pulses := 0, opening := 0, closure := 0, buffer := [], digitWait := none } }
    let handed : State :=
      { s with dial := { s.dial with buffer := [], digitWait := none, state := .idle } }
    let tone (sc : Script) := start .dialDecoder sc (clean s)
    let p := permissionsOf s
    let others := heldByOthers s
    settleDialling .wrong s = tone .error ∧
    settleDialling .incomplete s = { s with dial := { s.dial with digitWait := some 300 } } ∧
    (p ≠ 2 → p ≠ 3 → settleDialling .alert s = tone .error) ∧
    (p = 2 ∨ p = 3 → settleDialling .alert s = queue .requestUnit .brk 0 none handed) ∧
    (ownCode s = some x → ∀ u, settleDialling (.call u x) s = tone .error) ∧
    (ownCode s ≠ some x →
      (p ≠ 1 → p ≠ 3 → settleDialling (.call true x) s = tone .error) ∧
      (others = true → settleDialling (.call false x) s = tone .lockout) ∧
      (p = 1 ∨ p = 3 → others = true → (∃ a b, s.view.record = .held a b .urgent) →
        settleDialling (.call true x) s = tone .lockout) ∧
      (s.request.record = none → s.request.pendingBreak = none →
        (others = false →
          settleDialling (.call false x) s = start .requestUnit .instruct
            { queue .requestUnit .ring x (some 0) handed with
              request := { s.request with
                record := some ⟨.requesting, x, .ordinary, 1, 0, false, false, .sending, 0⟩ } }) ∧
        (p = 1 ∨ p = 3 → others = false →
          settleDialling (.call true x) s = start .requestUnit .instruct
            { queue .requestUnit .ring x (some 2) handed with
              request := { s.request with
                record := some ⟨.requesting, x, .urgent, 1, 0, false, false, .sending, 0⟩ } }) ∧
        (p = 1 ∨ p = 3 → others = true → (∀ a b, s.view.record ≠ .held a b .urgent) →
          settleDialling (.call true x) s = start .requestUnit .instruct
            { queue .requestUnit .brk x none handed with
              request := { s.request with pendingBreak := some x } }))))

/-! ## Trunk Interface -/

/-- R146, R149 to R153, R157: the trunk-end's block end: the reading of TRUNK_RING, a rise with its code latched and the call DEFERRED or REJECTED, which wakes a dozing station or takes back a doze entry that is due (the model's choice, log 21), and without a lapse the test of a DEFERRED call left to be made (log 6) and an offer that has ended made DONE; on another station nothing is read. ORIGINATE of a deferred exchange call on a free trunk, once at a block end and not where a lapse is due, when it changes nothing (the model's choice, log 3); and TRUNK_LAPSE. -/
def Obligations.ExchangeCallRisesIsOfferedAndLapses : Prop :=
  (∀ s : State,
    let silence := if s.pins.trunkRing then 0 else min 300 (s.trunk.silence + 1)
    let code := s.pins.trunkCode
    (isTrunkEnd s = false → trunkBlock s = s) ∧
    (isTrunkEnd s = true → (trunkBlock s).trunk.silence = silence) ∧
    (isTrunkEnd s = true → s.link.setupMode = true →
      trunkBlock s = { s with trunk := { s.trunk with silence := silence } }) ∧
    (isTrunkEnd s = true → s.link.setupMode = false → 300 ≤ s.trunk.silence →
      s.pins.trunkRing = true →
      (trunkBlock s).trunk.latched = some code ∧
      (trunkBlock s).doze = (if s.doze.dozing = true ∨ s.doze.count = 100 then ⟨false, 0⟩ else s.doze) ∧
      (code = 0 ∨ code = 15 →
        (trunkBlock s).trunk.incoming = .rejected ∧ (trunkBlock s).conds.badTrunkCode = true) ∧
      (code ≠ 0 → code ≠ 15 →
        (trunkBlock s).trunk.incoming = .deferred ∧ (trunkBlock s).conds = s.conds ∧
        (trunkBlock s).trunk.testDue = true)) ∧
    (isTrunkEnd s = true → s.link.setupMode = false → s.trunk.silence < 300 → silence < 300 →
      (∀ x, s.trunk.incoming = .deferred → s.trunk.latched = some x →
        trunkBlock s = { s with trunk := ⟨silence, some x, .deferred, true⟩ }) ∧
      (∀ x, s.trunk.incoming = .offered → s.trunk.latched = some x →
        let stands := ∃ r, s.request.record = some r ∧ (r.state = .requesting ∨ r.state = .waiting) ∧
          r.cls = .trunk ∧ r.called = x
        (stands → trunkBlock s = { s with trunk := ⟨silence, some x, .offered, false⟩ }) ∧
        (¬stands → trunkBlock s = { s with trunk := ⟨silence, some x, .done, false⟩ })))) ∧
  (∀ s : State, Ready s →
    let lapsed (u : State) : State := { u with trunk := ⟨300, none, .idle, false⟩ }
    (∀ x, s.trunk.incoming = .deferred → s.trunk.latched = some x → s.trunk.silence ≠ 300 →
      s.trunk.testDue = true → s.out.trunkConnect = false →
      s.request.record = none → s.answer.slot = none → s.view.record = .free →
      exec .originate s = .next (finish
        { queue .requestUnit .ring x (some 1)
            { s with trunk := { s.trunk with incoming := .offered, testDue := false } } with
          request := { s.request with
            record := some ⟨.requesting, x, .trunk, 1, 0, true, false, .sending, 0⟩ } })) ∧
    (s.trunk.silence = 300 ∨ s.trunk.testDue = false ∨ s.out.trunkConnect = true ∨
      s.request.record ≠ none ∨ s.answer.slot ≠ none ∨ s.view.record ≠ .free →
      s.trunk.incoming = .deferred → exec .originate s = .next s) ∧
    (s.trunk.silence = 300 → s.trunk.incoming ≠ .idle → s.trunk.incoming ≠ .offered →
      exec .trunkLapse s = .next (followDial (lapsed s))) ∧
    (∀ r, s.trunk.silence = 300 → s.trunk.incoming = .offered → s.request.record = some r →
      r.state = .requesting ∨ r.state = .waiting → r.cls = .trunk →
      exec .trunkLapse s = .next (finish (lapsed
        { queue .requestUnit .clear r.called none s with
          request := { s.request with record := none } }))) ∧
    (s.trunk.silence = 300 → s.trunk.incoming = .offered →
      (∀ r, s.request.record = some r →
        r.cls ≠ .trunk ∨ r.state = .reverting ∨ ∃ why, r.state = .failed why) →
      exec .trunkLapse s = .next (followDial (lapsed s))))

/-! ## Lamp Driver -/

/-- R168: the pattern of the first row whose condition holds, its timing, and where it starts (the cycle counts from the tick at which the pattern is chosen: deduced, log 40). -/
def Obligations.LampShowsTheFirstRowThatHolds : Prop :=
  (∀ s : State,
    let p := chosenPattern s
    let making := ∃ r, s.request.record = some r ∧ ∀ why, r.state ≠ .failed why
    let failed := ∃ r why, s.request.record = some r ∧ r.state = .failed why
    let row4 := isParty s = true ∨ making ∨ s.request.pendingBreak ≠ none
    (s.link.setupMode = true → p = .steady) ∧
    (s.link.setupMode = false → s.settings = none → p = .fastFlash) ∧
    (s.link.setupMode = false → s.settings ≠ none →
      (s.conds.clash = true → p = .doubleFlash) ∧
      (s.conds.clash = false →
        (row4 → p = .steady) ∧
        (¬row4 → failed → s.request.offHook = false → p = .tripleFlash) ∧
        (¬row4 → ¬(failed ∧ s.request.offHook = false) → heldByOthers s = true → p = .slowFlash) ∧
        (¬row4 → ¬(failed ∧ s.request.offHook = false) → heldByOthers s = false → p = .off)))) ∧
  (∀ (l : Lamp) (p : LampPattern),
    (p ≠ l.pattern → l.next p = ⟨p, 0, decide (p ≠ .off)⟩) ∧
    (p = l.pattern → (l.next p).pattern = p ∧
      (l.next p).phase = (l.phase + 1) %
        (match p with
          | .off | .steady => 1
          | .fastFlash => 25
          | .slowFlash => 100
          | .doubleFlash | .tripleFlash => 200) ∧
      (l.next p).lit = p.lit (l.next p).phase)) ∧
  ∀ n, LampPattern.fastFlash.lit n = decide (n < 12) ∧ LampPattern.slowFlash.lit n = decide (n < 50) ∧
    LampPattern.doubleFlash.lit n = decide (n < 10 ∨ 20 ≤ n ∧ n < 30) ∧
    LampPattern.tripleFlash.lit n = decide (n < 10 ∨ 20 ≤ n ∧ n < 30 ∨ 40 ≤ n ∧ n < 50)

/-! ## Setup Link -/

/-- R162, R163: SETUP_BYTE, SETUP_GAP_TIMEOUT, SETUP_REPLY_START and ENTRY_WINDOW_CLOSE. A byte only joins the partial command, without a wake of its own (deduced, log 39), or with its stop bit low empties it, the gap timer then 0 (the model's choice, log 49), and a command that it completes stands due: it is carried out by its own row, before the next byte, or before time goes on (the model's choice, log 23). The first reply waiting begins to be sent when SETUP_TX is idle, a hundred for each byte still to be sent at three a sample (deduced, log 24), and otherwise SETUP_REPLY_START changes nothing (the model's choice, log 3). The window's last tick is ENTRY_WINDOW_CLOSE (the model's choice, log 2). -/
def Obligations.SetupLinkTakesBytesAndTimes : Prop :=
  ∀ s : State, s.powered = true →
    let put (l : SetupLink) : State := { s with link := l }
    (∀ b, completedCommand s.link.partialCmd = none → (s.link.partialCmd = [] ∨ 0 < s.link.gap) →
      (s.link.awaitRestart = false →
        exec (.setupByte b true) s = .next (put { s.link with
          partialCmd := s.link.partialCmd ++ [b], gap := 10 }) ∧
        exec (.setupByte b false) s = .next (put { s.link with partialCmd := [], gap := 0 })) ∧
      (s.link.awaitRestart = true → ∀ stop, exec (.setupByte b stop) s = .next s)) ∧
    (∀ c b stop, completedCommand s.link.partialCmd = some c → s.link.awaitRestart = false →
      exec (.setupByte b stop) s = exec (.setupByte b stop)
        (finish (carryOut c (put { s.link with partialCmd := [], gap := 0 })))) ∧
    (s.link.partialCmd ≠ [] → s.link.gap = 0 →
      exec .setupGapTimeout s = .next (put { s.link with partialCmd := [], gap := 0 })) ∧
    (∀ r rest, s.link.sending = none → s.link.replies = r :: rest →
      exec .setupReplyStart s = .next (put { s.link with
        replies := rest, sending := some ⟨r, 100 * r.length⟩ })) ∧
    (s.link.sending ≠ none ∨ s.link.replies = [] → exec .setupReplyStart s = .next s) ∧
    (s.link.windowDue = true →
      exec .entryWindowClose s = .next (put { s.link with powerOn := 6000, windowDue := false }))

/-- How a setup command finds the part in the statements below: ready, no restart awaited, and of the command's bytes none, its first ones or all received (log 23). -/
abbrev SetupCommandArrives (bytes : List Byte) (s : State) : Prop :=
  Ready s ∧ s.link.awaitRestart = false ∧ s.link.partialCmd.isPrefixOf bytes = true

/-- R163, R167: the state once a command's bytes are received: the partial command empty, and the part awake if a byte was still to come. -/
def received (bytes : List Byte) (s : State) : State :=
  { s with
    doze := if (s.doze.dozing = true ∨ s.doze.count = 100) ∧ s.link.partialCmd ≠ bytes
      then ⟨false, 0⟩ else s.doze
    link := { s.link with partialCmd := [], gap := 0 } }

/-- R163: the state with one reply more to send. -/
def answered (bytes : List Byte) (s : State) : State :=
  { s with link := { s.link with replies := s.link.replies ++ [bytes] } }

/-- R163: READ, CONDITIONS, CLEAR_CONDITIONS, STATE and BADCMD, with their status and data bytes; the bits of the condition byte, and the nine STATE bytes of a station in ACTIVE and in UNSET. The command arrives as a whole or in its last bytes (the model's form, log 23); the start bit of a byte still to come wakes a dozing station and takes back a doze entry that is due (the model's choice, log 21); the gap timer is then 0 (the model's choice, log 49). -/
def Obligations.SetupReportsAreAnswered : Prop :=
  ∀ s : State,
    let out (cmd bytes : List Byte) :=
      Host.Outcome.next (followDial (answered bytes (received cmd s)))
    (∀ n, SetupCommandArrives [0x10, n] s →
      (storeBusy s = true → exec (.read n) s = out [0x10, n] [0x01]) ∧
      (storeBusy s = false → 8 < n.toNat → exec (.read n) s = out [0x10, n] [0x05]) ∧
      (storeBusy s = false → n.toNat ≤ 8 →
        exec (.read n) s = out [0x10, n] [0x00, s.store.page.get n.toNat])) ∧
    (SetupCommandArrives [0x40] s → exec .conditions s = out [0x40] [0x00, s.conds.byte]) ∧
    (let bit (b : Bool) (v : Nat) := if b then v else 0
    s.conds.byte.toNat = bit s.conds.overdrive 1 + bit s.conds.brokenWord 2 + bit s.conds.clash 4 +
      bit s.conds.sendAbandoned 8 + bit s.conds.laneFull 16 + bit s.conds.stuckTone 32 +
      bit s.conds.badTrunkCode 64) ∧
    (SetupCommandArrives [0x41] s →
      exec .clearConditions s = .next (followDial (answered [0x00]
        { received [0x41] s with conds := ⟨false, false, false, false, false, false, false⟩ }))) ∧
    (SetupCommandArrives [0x50] s → exec .stateReport s = out [0x50] (0x00 :: stateBytes s)) ∧
    (let code (c : Option Code) : Byte := BitVec.ofNat 8 ((c.map (·.val)).getD 0)
    let phase : Option CallPhase := s.answer.slot.map (·.phase)
    let state : Option RequestState := s.request.record.map (·.state)
    stateBytes s =
      [(match s.view.record with
        | .free => 0
        | .held .. => 1
        | .broken .. => 2),
      code (s.view.record.parties.map (·.1)), code (s.view.record.parties.map (·.2)),
      (match phase with
        | none => 0
        | some (.ringing _) => 1
        | some .answered => 2
        | some .delivered => 3
        | some .expired => 4),
      code (s.answer.slot.map (·.caller)),
      (match state with
        | none => 0
        | some .requesting => 1
        | some .waiting => 2
        | some .reverting => 3
        | some (.failed _) => 4),
      code (s.request.record.map (·.called)),
      BitVec.ofNat 8 (s.tx.prompt.length * 16 + s.tx.request.length),
      BitVec.ofNat 8 (s.det.floor / 256)]) ∧
    (∀ b, SetupCommandArrives [b] s → b ∉ commandBytes → exec (.badcmd b) s = out [b] [0x0F]) ∧
    (s.settings = none → OfflineIsEmpty s → s.det.floor ≤ 65535 →
      stateBytes s = [0, 0, 0, 0, 0, 0, 0, 0, BitVec.ofNat 8 (s.det.floor / 256)])

/-- R159, R160, R163, R165: ERASE, LEAVE_SETUP and RESTART, and WRITE by the first row that applies; an erase begins with 96 samples to last and a write with 16 (deduced, log 24), an erase changing cell 8 alone and a write no cell till they end (the model's choice, log 50). The command arrives as a whole or in its last bytes (the model's form, log 23); the start bit of a byte still to come wakes a dozing station and takes back a doze entry that is due (the model's choice, log 21); the gap timer is then 0 (the model's choice, log 49). -/
def Obligations.EraseWriteLeaveAndRestartAreJudged : Prop :=
  (∀ s : State,
    let out (cmd bytes : List Byte) :=
      Host.Outcome.next (followDial (answered bytes (received cmd s)))
    let awaiting (u : State) : State := { u with link := { u.link with awaitRestart := true } }
    (SetupCommandArrives [0x30] s →
      (storeBusy s = true → exec .erase s = out [0x30] [0x01]) ∧
      (storeBusy s = false → s.link.setupMode = false → exec .erase s = out [0x30] [0x02]) ∧
      (storeBusy s = false → s.link.setupMode = true →
        exec .erase s = .next (followDial (answered [0x00]
          { received [0x30] s with store := ⟨{ s.store.page with c8 := 0xFF }, .erasing 96⟩ })))) ∧
    (SetupCommandArrives [0x21] s →
      (storeBusy s = true → exec .leaveSetup s = out [0x21] [0x01]) ∧
      (storeBusy s = false → s.link.setupMode = false → exec .leaveSetup s = out [0x21] [0x07]) ∧
      (storeBusy s = false → s.link.setupMode = true →
        exec .leaveSetup s = .next (followDial (answered [0x00] (awaiting (received [0x21] s)))))) ∧
    (SetupCommandArrives [0x60] s →
      (storeBusy s = true → exec .restart s = out [0x60] [0x01]) ∧
      (storeBusy s = false →
        exec .restart s = .next (followDial (answered [0x00] (awaiting (received [0x60] s))))))) ∧
  (∀ (n v : Byte) (s : State), SetupCommandArrives [0x31, n, v] s →
    let out (bytes : List Byte) :=
      Host.Outcome.next (followDial (answered bytes (received [0x31, n, v] s)))
    let page := s.store.page
    (storeBusy s = true → exec (.write n v) s = out [0x01]) ∧
    (storeBusy s = false →
      (s.link.setupMode = false → exec (.write n v) s = out [0x02]) ∧
      (s.link.setupMode = true →
        (8 < n.toNat → exec (.write n v) s = out [0x05]) ∧
        (n.toNat ≤ 8 → v = 0xFF → exec (.write n v) s = out [0x06]) ∧
        (n.toNat ≤ 8 → v ≠ 0xFF →
          (page.c8 ≠ 0xFF → exec (.write n v) s = out [0x04]) ∧
          (page.c8 = 0xFF → page.get n.toNat ≠ 0xFF → exec (.write n v) s = out [0x03]) ∧
          (page.c8 = 0xFF → page.get n.toNat = 0xFF →
            (n = 8 → v ≠ 0xA5 → exec (.write n v) s = out [0x06]) ∧
            (n ≠ 8 ∨ v = 0xA5 →
              exec (.write n v) s = .next (followDial (answered [0x00]
                { received [0x31, n, v] s with store := ⟨page, .writing n.toNat v 16⟩ }))))))))

/-- R164: ENTER_SETUP: already in setup mode, refused, or accepted, when the blocks of the calls are emptied and the detector, the receiver, the store, the settings and the conditions carry on, and the doze flag and count are cleared (the model's choice, log 22). The command arrives as a whole or in its last bytes (the model's form, log 23); the start bit of a byte still to come wakes a dozing station and takes back a doze entry that is due (the model's choice, log 21); the gap timer is then 0 (the model's choice, log 49). -/
def Obligations.EnterSetupIsRefusedOrEmptiesTheCalls : Prop :=
  ∀ s : State, SetupCommandArrives [0x20] s →
    let out (bytes : List Byte) :=
      Host.Outcome.next (followDial (answered bytes (received [0x20] s)))
    let accepted := s.settings = none ∨
      s.link.powerOn < 6000 ∧ s.answer.slot = none ∧ s.request.record = none
    (s.link.setupMode = true → exec .enterSetup s = out [0x00]) ∧
    (s.link.setupMode = false → ¬accepted → exec .enterSetup s = out [0x07]) ∧
    (s.link.setupMode = false → accepted →
      ∃ t, exec .enterSetup s = .next t ∧ t.link.setupMode = true ∧
        t.link.replies = s.link.replies ++ [[0x00]] ∧ OfflineIsEmpty t ∧ t.tx.quiet = 0 ∧
        t.tx.backOff = 0 ∧ t.view.offHook = s.view.offHook ∧ t.answer.offHook = s.answer.offHook ∧
        t.request.offHook = s.request.offHook ∧ t.dial.hook = s.dial.hook ∧ t.dial.buffer = [] ∧
        t.engine.v0.play = false ∧ t.engine.v1.play = false ∧ t.engine.ear.script = none ∧
        t.engine.bell.script = none ∧ t.out.privacy = false ∧ t.out.trunkConnect = false ∧
        OnlyParts [.engine, .tx, .view, .out, .answer, .request, .dial, .trunk, .link, .doze] s t)
end

