-- ==== Sys2Proof/Laws/Frame.lean ====
section
/-! SUPPORT. Frames: the laws of `OnlyParts`, and the parts that the operations of each block may change. -/

namespace Sys2Proof.Machine

theorem same_refl (p : Part) (s : State) : Same p s s := by cases p <;> rfl

theorem same_trans {p : Part} {s t u : State} (h₁ : Same p s t) (h₂ : Same p t u) : Same p s u := by
  cases p <;> exact Eq.trans h₂ h₁

theorem only_refl (ps : List Part) (s : State) : OnlyParts ps s s := fun p _ => same_refl p s

theorem only_trans {ps : List Part} {s t u : State} (h₁ : OnlyParts ps s t)
    (h₂ : OnlyParts ps t u) : OnlyParts ps s u := fun p hp => same_trans (h₁ p hp) (h₂ p hp)

theorem only_mono {ps qs : List Part} {s t : State} (hsub : ps ⊆ qs) (h : OnlyParts ps s t) :
    OnlyParts qs s t := fun p hp => h p (fun hm => hp (hsub hm))

theorem only_of_ite {ps : List Part} {s t u : State} {c : Prop} [Decidable c]
    (h₁ : OnlyParts ps s t) (h₂ : OnlyParts ps s u) : OnlyParts ps s (if c then t else u) := by
  split <;> assumption

/-! ## The parts that the operations of each block may change -/

/-- QUEUE and WITHDRAW: the lanes, the condition set, the events raised. -/
def sendParts : List Part := [.tx, .conds, .inbox]

/-- Starts and stops: the engine, the events raised. -/
def voiceParts : List Part := [.engine, .inbox]

/-- The Line View's operations. -/
def viewParts : List Part := [.view, .out, .engine, .tx, .conds, .inbox]

/-- The Request Unit's operations. -/
def requestParts : List Part := [.request, .engine, .tx, .conds, .inbox]

/-- The Answer Unit's operations, with the YIELD and the RELEASE they give. -/
def answerParts : List Part :=
  [.answer, .request, .view, .out, .engine, .tx, .conds, .inbox]

/-- What a command's events and the dialling that follows them may change. -/
def callParts : List Part :=
  [.dial, .answer, .request, .view, .out, .engine, .tx, .conds, .inbox]

theorem send_in_view : sendParts ⊆ viewParts := by decide
theorem send_in_request : sendParts ⊆ requestParts := by decide
theorem send_in_answer : sendParts ⊆ answerParts := by decide
theorem send_in_call : sendParts ⊆ callParts := by decide
theorem voice_in_view : voiceParts ⊆ viewParts := by decide
theorem voice_in_request : voiceParts ⊆ requestParts := by decide
theorem voice_in_answer : voiceParts ⊆ answerParts := by decide
theorem voice_in_call : voiceParts ⊆ callParts := by decide
theorem view_in_answer : viewParts ⊆ answerParts := by decide
theorem request_in_answer : requestParts ⊆ answerParts := by decide
theorem view_in_call : viewParts ⊆ callParts := by decide
theorem request_in_call : requestParts ⊆ callParts := by decide
theorem answer_in_call : answerParts ⊆ callParts := by decide

end Sys2Proof.Machine
end

