-- ==== Sys2Proof/Laws/State.lean ====
section
/-! SUPPORT. Every named update of State, field by field: what it sets, and that it leaves the rest. -/

namespace Sys2Proof.Machine

variable (s : State)

/-! ### emit -/

@[simp] theorem emit_pending (e : Event) : (emit e s).pending = s.pending := rfl
@[simp] theorem emit_powered (e : Event) : (emit e s).powered = s.powered := rfl
@[simp] theorem emit_pins (e : Event) : (emit e s).pins = s.pins := rfl
@[simp] theorem emit_frame (e : Event) : (emit e s).frame = s.frame := rfl
@[simp] theorem emit_det (e : Event) : (emit e s).det = s.det := rfl
@[simp] theorem emit_conds (e : Event) : (emit e s).conds = s.conds := rfl
@[simp] theorem emit_rx (e : Event) : (emit e s).rx = s.rx := rfl
@[simp] theorem emit_engine (e : Event) : (emit e s).engine = s.engine := rfl
@[simp] theorem emit_out (e : Event) : (emit e s).out = s.out := rfl
@[simp] theorem emit_tx (e : Event) : (emit e s).tx = s.tx := rfl
@[simp] theorem emit_view (e : Event) : (emit e s).view = s.view := rfl
@[simp] theorem emit_answer (e : Event) : (emit e s).answer = s.answer := rfl
@[simp] theorem emit_request (e : Event) : (emit e s).request = s.request := rfl
@[simp] theorem emit_dial (e : Event) : (emit e s).dial = s.dial := rfl
@[simp] theorem emit_trunk (e : Event) : (emit e s).trunk = s.trunk := rfl
@[simp] theorem emit_store (e : Event) : (emit e s).store = s.store := rfl
@[simp] theorem emit_settings (e : Event) : (emit e s).settings = s.settings := rfl
@[simp] theorem emit_link (e : Event) : (emit e s).link = s.link := rfl
@[simp] theorem emit_doze (e : Event) : (emit e s).doze = s.doze := rfl
@[simp] theorem emit_lamp (e : Event) : (emit e s).lamp = s.lamp := rfl
@[simp] theorem emit_inbox (e : Event) : (emit e s).inbox = s.inbox ++ [e] := rfl
@[simp] theorem emit_draws (e : Event) : (emit e s).draws = s.draws := rfl

/-! ### setEntries -/

@[simp] theorem setEntries_pending (l : Lane) (es : List Entry) : (setEntries l es s).pending = s.pending := rfl
@[simp] theorem setEntries_powered (l : Lane) (es : List Entry) : (setEntries l es s).powered = s.powered := rfl
@[simp] theorem setEntries_pins (l : Lane) (es : List Entry) : (setEntries l es s).pins = s.pins := rfl
@[simp] theorem setEntries_frame (l : Lane) (es : List Entry) : (setEntries l es s).frame = s.frame := rfl
@[simp] theorem setEntries_det (l : Lane) (es : List Entry) : (setEntries l es s).det = s.det := rfl
@[simp] theorem setEntries_conds (l : Lane) (es : List Entry) : (setEntries l es s).conds = s.conds := rfl
@[simp] theorem setEntries_rx (l : Lane) (es : List Entry) : (setEntries l es s).rx = s.rx := rfl
@[simp] theorem setEntries_engine (l : Lane) (es : List Entry) : (setEntries l es s).engine = s.engine := rfl
@[simp] theorem setEntries_out (l : Lane) (es : List Entry) : (setEntries l es s).out = s.out := rfl
@[simp] theorem setEntries_tx (l : Lane) (es : List Entry) : (setEntries l es s).tx = s.tx.setEntries l es := rfl
@[simp] theorem setEntries_view (l : Lane) (es : List Entry) : (setEntries l es s).view = s.view := rfl
@[simp] theorem setEntries_answer (l : Lane) (es : List Entry) : (setEntries l es s).answer = s.answer := rfl
@[simp] theorem setEntries_request (l : Lane) (es : List Entry) : (setEntries l es s).request = s.request := rfl
@[simp] theorem setEntries_dial (l : Lane) (es : List Entry) : (setEntries l es s).dial = s.dial := rfl
@[simp] theorem setEntries_trunk (l : Lane) (es : List Entry) : (setEntries l es s).trunk = s.trunk := rfl
@[simp] theorem setEntries_store (l : Lane) (es : List Entry) : (setEntries l es s).store = s.store := rfl
@[simp] theorem setEntries_settings (l : Lane) (es : List Entry) : (setEntries l es s).settings = s.settings := rfl
@[simp] theorem setEntries_link (l : Lane) (es : List Entry) : (setEntries l es s).link = s.link := rfl
@[simp] theorem setEntries_doze (l : Lane) (es : List Entry) : (setEntries l es s).doze = s.doze := rfl
@[simp] theorem setEntries_lamp (l : Lane) (es : List Entry) : (setEntries l es s).lamp = s.lamp := rfl
@[simp] theorem setEntries_inbox (l : Lane) (es : List Entry) : (setEntries l es s).inbox = s.inbox := rfl
@[simp] theorem setEntries_draws (l : Lane) (es : List Entry) : (setEntries l es s).draws = s.draws := rfl

/-! ### setVoice -/

@[simp] theorem setVoice_pending (v : ScriptVoice) (c : CadenceVoice) : (setVoice v c s).pending = s.pending := rfl
@[simp] theorem setVoice_powered (v : ScriptVoice) (c : CadenceVoice) : (setVoice v c s).powered = s.powered := rfl
@[simp] theorem setVoice_pins (v : ScriptVoice) (c : CadenceVoice) : (setVoice v c s).pins = s.pins := rfl
@[simp] theorem setVoice_frame (v : ScriptVoice) (c : CadenceVoice) : (setVoice v c s).frame = s.frame := rfl
@[simp] theorem setVoice_det (v : ScriptVoice) (c : CadenceVoice) : (setVoice v c s).det = s.det := rfl
@[simp] theorem setVoice_conds (v : ScriptVoice) (c : CadenceVoice) : (setVoice v c s).conds = s.conds := rfl
@[simp] theorem setVoice_rx (v : ScriptVoice) (c : CadenceVoice) : (setVoice v c s).rx = s.rx := rfl
@[simp] theorem setVoice_engine (v : ScriptVoice) (c : CadenceVoice) : (setVoice v c s).engine = s.engine.setVoice v c := rfl
@[simp] theorem setVoice_out (v : ScriptVoice) (c : CadenceVoice) : (setVoice v c s).out = s.out := rfl
@[simp] theorem setVoice_tx (v : ScriptVoice) (c : CadenceVoice) : (setVoice v c s).tx = s.tx := rfl
@[simp] theorem setVoice_view (v : ScriptVoice) (c : CadenceVoice) : (setVoice v c s).view = s.view := rfl
@[simp] theorem setVoice_answer (v : ScriptVoice) (c : CadenceVoice) : (setVoice v c s).answer = s.answer := rfl
@[simp] theorem setVoice_request (v : ScriptVoice) (c : CadenceVoice) : (setVoice v c s).request = s.request := rfl
@[simp] theorem setVoice_dial (v : ScriptVoice) (c : CadenceVoice) : (setVoice v c s).dial = s.dial := rfl
@[simp] theorem setVoice_trunk (v : ScriptVoice) (c : CadenceVoice) : (setVoice v c s).trunk = s.trunk := rfl
@[simp] theorem setVoice_store (v : ScriptVoice) (c : CadenceVoice) : (setVoice v c s).store = s.store := rfl
@[simp] theorem setVoice_settings (v : ScriptVoice) (c : CadenceVoice) : (setVoice v c s).settings = s.settings := rfl
@[simp] theorem setVoice_link (v : ScriptVoice) (c : CadenceVoice) : (setVoice v c s).link = s.link := rfl
@[simp] theorem setVoice_doze (v : ScriptVoice) (c : CadenceVoice) : (setVoice v c s).doze = s.doze := rfl
@[simp] theorem setVoice_lamp (v : ScriptVoice) (c : CadenceVoice) : (setVoice v c s).lamp = s.lamp := rfl
@[simp] theorem setVoice_inbox (v : ScriptVoice) (c : CadenceVoice) : (setVoice v c s).inbox = s.inbox := rfl
@[simp] theorem setVoice_draws (v : ScriptVoice) (c : CadenceVoice) : (setVoice v c s).draws = s.draws := rfl

/-! ### setSlot -/

@[simp] theorem setSlot_pending (c : Option Call) : (setSlot c s).pending = s.pending := rfl
@[simp] theorem setSlot_powered (c : Option Call) : (setSlot c s).powered = s.powered := rfl
@[simp] theorem setSlot_pins (c : Option Call) : (setSlot c s).pins = s.pins := rfl
@[simp] theorem setSlot_frame (c : Option Call) : (setSlot c s).frame = s.frame := rfl
@[simp] theorem setSlot_det (c : Option Call) : (setSlot c s).det = s.det := rfl
@[simp] theorem setSlot_conds (c : Option Call) : (setSlot c s).conds = s.conds := rfl
@[simp] theorem setSlot_rx (c : Option Call) : (setSlot c s).rx = s.rx := rfl
@[simp] theorem setSlot_engine (c : Option Call) : (setSlot c s).engine = s.engine := rfl
@[simp] theorem setSlot_out (c : Option Call) : (setSlot c s).out = s.out := rfl
@[simp] theorem setSlot_tx (c : Option Call) : (setSlot c s).tx = s.tx := rfl
@[simp] theorem setSlot_view (c : Option Call) : (setSlot c s).view = s.view := rfl
@[simp] theorem setSlot_answer (c : Option Call) : (setSlot c s).answer = { s.answer with slot := c } := rfl
@[simp] theorem setSlot_request (c : Option Call) : (setSlot c s).request = s.request := rfl
@[simp] theorem setSlot_dial (c : Option Call) : (setSlot c s).dial = s.dial := rfl
@[simp] theorem setSlot_trunk (c : Option Call) : (setSlot c s).trunk = s.trunk := rfl
@[simp] theorem setSlot_store (c : Option Call) : (setSlot c s).store = s.store := rfl
@[simp] theorem setSlot_settings (c : Option Call) : (setSlot c s).settings = s.settings := rfl
@[simp] theorem setSlot_link (c : Option Call) : (setSlot c s).link = s.link := rfl
@[simp] theorem setSlot_doze (c : Option Call) : (setSlot c s).doze = s.doze := rfl
@[simp] theorem setSlot_lamp (c : Option Call) : (setSlot c s).lamp = s.lamp := rfl
@[simp] theorem setSlot_inbox (c : Option Call) : (setSlot c s).inbox = s.inbox := rfl
@[simp] theorem setSlot_draws (c : Option Call) : (setSlot c s).draws = s.draws := rfl

/-! ### setRecord -/

@[simp] theorem setRecord_pending (r : Option Request) : (setRecord r s).pending = s.pending := rfl
@[simp] theorem setRecord_powered (r : Option Request) : (setRecord r s).powered = s.powered := rfl
@[simp] theorem setRecord_pins (r : Option Request) : (setRecord r s).pins = s.pins := rfl
@[simp] theorem setRecord_frame (r : Option Request) : (setRecord r s).frame = s.frame := rfl
@[simp] theorem setRecord_det (r : Option Request) : (setRecord r s).det = s.det := rfl
@[simp] theorem setRecord_conds (r : Option Request) : (setRecord r s).conds = s.conds := rfl
@[simp] theorem setRecord_rx (r : Option Request) : (setRecord r s).rx = s.rx := rfl
@[simp] theorem setRecord_engine (r : Option Request) : (setRecord r s).engine = s.engine := rfl
@[simp] theorem setRecord_out (r : Option Request) : (setRecord r s).out = s.out := rfl
@[simp] theorem setRecord_tx (r : Option Request) : (setRecord r s).tx = s.tx := rfl
@[simp] theorem setRecord_view (r : Option Request) : (setRecord r s).view = s.view := rfl
@[simp] theorem setRecord_answer (r : Option Request) : (setRecord r s).answer = s.answer := rfl
@[simp] theorem setRecord_request (r : Option Request) : (setRecord r s).request = { s.request with record := r } := rfl
@[simp] theorem setRecord_dial (r : Option Request) : (setRecord r s).dial = s.dial := rfl
@[simp] theorem setRecord_trunk (r : Option Request) : (setRecord r s).trunk = s.trunk := rfl
@[simp] theorem setRecord_store (r : Option Request) : (setRecord r s).store = s.store := rfl
@[simp] theorem setRecord_settings (r : Option Request) : (setRecord r s).settings = s.settings := rfl
@[simp] theorem setRecord_link (r : Option Request) : (setRecord r s).link = s.link := rfl
@[simp] theorem setRecord_doze (r : Option Request) : (setRecord r s).doze = s.doze := rfl
@[simp] theorem setRecord_lamp (r : Option Request) : (setRecord r s).lamp = s.lamp := rfl
@[simp] theorem setRecord_inbox (r : Option Request) : (setRecord r s).inbox = s.inbox := rfl
@[simp] theorem setRecord_draws (r : Option Request) : (setRecord r s).draws = s.draws := rfl

/-! ### setPendingBreak -/

@[simp] theorem setPendingBreak_pending (b : Option Code) : (setPendingBreak b s).pending = s.pending := rfl
@[simp] theorem setPendingBreak_powered (b : Option Code) : (setPendingBreak b s).powered = s.powered := rfl
@[simp] theorem setPendingBreak_pins (b : Option Code) : (setPendingBreak b s).pins = s.pins := rfl
@[simp] theorem setPendingBreak_frame (b : Option Code) : (setPendingBreak b s).frame = s.frame := rfl
@[simp] theorem setPendingBreak_det (b : Option Code) : (setPendingBreak b s).det = s.det := rfl
@[simp] theorem setPendingBreak_conds (b : Option Code) : (setPendingBreak b s).conds = s.conds := rfl
@[simp] theorem setPendingBreak_rx (b : Option Code) : (setPendingBreak b s).rx = s.rx := rfl
@[simp] theorem setPendingBreak_engine (b : Option Code) : (setPendingBreak b s).engine = s.engine := rfl
@[simp] theorem setPendingBreak_out (b : Option Code) : (setPendingBreak b s).out = s.out := rfl
@[simp] theorem setPendingBreak_tx (b : Option Code) : (setPendingBreak b s).tx = s.tx := rfl
@[simp] theorem setPendingBreak_view (b : Option Code) : (setPendingBreak b s).view = s.view := rfl
@[simp] theorem setPendingBreak_answer (b : Option Code) : (setPendingBreak b s).answer = s.answer := rfl
@[simp] theorem setPendingBreak_request (b : Option Code) : (setPendingBreak b s).request = { s.request with pendingBreak := b } := rfl
@[simp] theorem setPendingBreak_dial (b : Option Code) : (setPendingBreak b s).dial = s.dial := rfl
@[simp] theorem setPendingBreak_trunk (b : Option Code) : (setPendingBreak b s).trunk = s.trunk := rfl
@[simp] theorem setPendingBreak_store (b : Option Code) : (setPendingBreak b s).store = s.store := rfl
@[simp] theorem setPendingBreak_settings (b : Option Code) : (setPendingBreak b s).settings = s.settings := rfl
@[simp] theorem setPendingBreak_link (b : Option Code) : (setPendingBreak b s).link = s.link := rfl
@[simp] theorem setPendingBreak_doze (b : Option Code) : (setPendingBreak b s).doze = s.doze := rfl
@[simp] theorem setPendingBreak_lamp (b : Option Code) : (setPendingBreak b s).lamp = s.lamp := rfl
@[simp] theorem setPendingBreak_inbox (b : Option Code) : (setPendingBreak b s).inbox = s.inbox := rfl
@[simp] theorem setPendingBreak_draws (b : Option Code) : (setPendingBreak b s).draws = s.draws := rfl

/-! ### setDial -/

@[simp] theorem setDial_pending (d : DialDecoder) : (setDial d s).pending = s.pending := rfl
@[simp] theorem setDial_powered (d : DialDecoder) : (setDial d s).powered = s.powered := rfl
@[simp] theorem setDial_pins (d : DialDecoder) : (setDial d s).pins = s.pins := rfl
@[simp] theorem setDial_frame (d : DialDecoder) : (setDial d s).frame = s.frame := rfl
@[simp] theorem setDial_det (d : DialDecoder) : (setDial d s).det = s.det := rfl
@[simp] theorem setDial_conds (d : DialDecoder) : (setDial d s).conds = s.conds := rfl
@[simp] theorem setDial_rx (d : DialDecoder) : (setDial d s).rx = s.rx := rfl
@[simp] theorem setDial_engine (d : DialDecoder) : (setDial d s).engine = s.engine := rfl
@[simp] theorem setDial_out (d : DialDecoder) : (setDial d s).out = s.out := rfl
@[simp] theorem setDial_tx (d : DialDecoder) : (setDial d s).tx = s.tx := rfl
@[simp] theorem setDial_view (d : DialDecoder) : (setDial d s).view = s.view := rfl
@[simp] theorem setDial_answer (d : DialDecoder) : (setDial d s).answer = s.answer := rfl
@[simp] theorem setDial_request (d : DialDecoder) : (setDial d s).request = s.request := rfl
@[simp] theorem setDial_dial (d : DialDecoder) : (setDial d s).dial = d := rfl
@[simp] theorem setDial_trunk (d : DialDecoder) : (setDial d s).trunk = s.trunk := rfl
@[simp] theorem setDial_store (d : DialDecoder) : (setDial d s).store = s.store := rfl
@[simp] theorem setDial_settings (d : DialDecoder) : (setDial d s).settings = s.settings := rfl
@[simp] theorem setDial_link (d : DialDecoder) : (setDial d s).link = s.link := rfl
@[simp] theorem setDial_doze (d : DialDecoder) : (setDial d s).doze = s.doze := rfl
@[simp] theorem setDial_lamp (d : DialDecoder) : (setDial d s).lamp = s.lamp := rfl
@[simp] theorem setDial_inbox (d : DialDecoder) : (setDial d s).inbox = s.inbox := rfl
@[simp] theorem setDial_draws (d : DialDecoder) : (setDial d s).draws = s.draws := rfl

/-! ### setTrunk -/

@[simp] theorem setTrunk_pending (t : TrunkInterface) : (setTrunk t s).pending = s.pending := rfl
@[simp] theorem setTrunk_powered (t : TrunkInterface) : (setTrunk t s).powered = s.powered := rfl
@[simp] theorem setTrunk_pins (t : TrunkInterface) : (setTrunk t s).pins = s.pins := rfl
@[simp] theorem setTrunk_frame (t : TrunkInterface) : (setTrunk t s).frame = s.frame := rfl
@[simp] theorem setTrunk_det (t : TrunkInterface) : (setTrunk t s).det = s.det := rfl
@[simp] theorem setTrunk_conds (t : TrunkInterface) : (setTrunk t s).conds = s.conds := rfl
@[simp] theorem setTrunk_rx (t : TrunkInterface) : (setTrunk t s).rx = s.rx := rfl
@[simp] theorem setTrunk_engine (t : TrunkInterface) : (setTrunk t s).engine = s.engine := rfl
@[simp] theorem setTrunk_out (t : TrunkInterface) : (setTrunk t s).out = s.out := rfl
@[simp] theorem setTrunk_tx (t : TrunkInterface) : (setTrunk t s).tx = s.tx := rfl
@[simp] theorem setTrunk_view (t : TrunkInterface) : (setTrunk t s).view = s.view := rfl
@[simp] theorem setTrunk_answer (t : TrunkInterface) : (setTrunk t s).answer = s.answer := rfl
@[simp] theorem setTrunk_request (t : TrunkInterface) : (setTrunk t s).request = s.request := rfl
@[simp] theorem setTrunk_dial (t : TrunkInterface) : (setTrunk t s).dial = s.dial := rfl
@[simp] theorem setTrunk_trunk (t : TrunkInterface) : (setTrunk t s).trunk = t := rfl
@[simp] theorem setTrunk_store (t : TrunkInterface) : (setTrunk t s).store = s.store := rfl
@[simp] theorem setTrunk_settings (t : TrunkInterface) : (setTrunk t s).settings = s.settings := rfl
@[simp] theorem setTrunk_link (t : TrunkInterface) : (setTrunk t s).link = s.link := rfl
@[simp] theorem setTrunk_doze (t : TrunkInterface) : (setTrunk t s).doze = s.doze := rfl
@[simp] theorem setTrunk_lamp (t : TrunkInterface) : (setTrunk t s).lamp = s.lamp := rfl
@[simp] theorem setTrunk_inbox (t : TrunkInterface) : (setTrunk t s).inbox = s.inbox := rfl
@[simp] theorem setTrunk_draws (t : TrunkInterface) : (setTrunk t s).draws = s.draws := rfl
@[simp] theorem askTest_testDue :
    (askTest s).trunk.testDue = decide (s.trunk.incoming = .deferred) := rfl
@[simp] theorem askTest_incoming : (askTest s).trunk.incoming = s.trunk.incoming := rfl
@[simp] theorem testMade_testDue : (testMade s).trunk.testDue = false := rfl
@[simp] theorem testMade_incoming : (testMade s).trunk.incoming = s.trunk.incoming := rfl

/-! ### setSymbol -/

@[simp] theorem setSymbol_pending (r : SymbolRecord) : (setSymbol r s).pending = s.pending := rfl
@[simp] theorem setSymbol_powered (r : SymbolRecord) : (setSymbol r s).powered = s.powered := rfl
@[simp] theorem setSymbol_pins (r : SymbolRecord) : (setSymbol r s).pins = s.pins := rfl
@[simp] theorem setSymbol_frame (r : SymbolRecord) : (setSymbol r s).frame = s.frame := rfl
@[simp] theorem setSymbol_det (r : SymbolRecord) : (setSymbol r s).det = s.det := rfl
@[simp] theorem setSymbol_conds (r : SymbolRecord) : (setSymbol r s).conds = s.conds := rfl
@[simp] theorem setSymbol_rx (r : SymbolRecord) : (setSymbol r s).rx = { s.rx with symbol := r } := rfl
@[simp] theorem setSymbol_engine (r : SymbolRecord) : (setSymbol r s).engine = s.engine := rfl
@[simp] theorem setSymbol_out (r : SymbolRecord) : (setSymbol r s).out = s.out := rfl
@[simp] theorem setSymbol_tx (r : SymbolRecord) : (setSymbol r s).tx = s.tx := rfl
@[simp] theorem setSymbol_view (r : SymbolRecord) : (setSymbol r s).view = s.view := rfl
@[simp] theorem setSymbol_answer (r : SymbolRecord) : (setSymbol r s).answer = s.answer := rfl
@[simp] theorem setSymbol_request (r : SymbolRecord) : (setSymbol r s).request = s.request := rfl
@[simp] theorem setSymbol_dial (r : SymbolRecord) : (setSymbol r s).dial = s.dial := rfl
@[simp] theorem setSymbol_trunk (r : SymbolRecord) : (setSymbol r s).trunk = s.trunk := rfl
@[simp] theorem setSymbol_store (r : SymbolRecord) : (setSymbol r s).store = s.store := rfl
@[simp] theorem setSymbol_settings (r : SymbolRecord) : (setSymbol r s).settings = s.settings := rfl
@[simp] theorem setSymbol_link (r : SymbolRecord) : (setSymbol r s).link = s.link := rfl
@[simp] theorem setSymbol_doze (r : SymbolRecord) : (setSymbol r s).doze = s.doze := rfl
@[simp] theorem setSymbol_lamp (r : SymbolRecord) : (setSymbol r s).lamp = s.lamp := rfl
@[simp] theorem setSymbol_inbox (r : SymbolRecord) : (setSymbol r s).inbox = s.inbox := rfl
@[simp] theorem setSymbol_draws (r : SymbolRecord) : (setSymbol r s).draws = s.draws := rfl

/-! ### setWord -/

@[simp] theorem setWord_pending (w : Option WordRecord) : (setWord w s).pending = s.pending := rfl
@[simp] theorem setWord_powered (w : Option WordRecord) : (setWord w s).powered = s.powered := rfl
@[simp] theorem setWord_pins (w : Option WordRecord) : (setWord w s).pins = s.pins := rfl
@[simp] theorem setWord_frame (w : Option WordRecord) : (setWord w s).frame = s.frame := rfl
@[simp] theorem setWord_det (w : Option WordRecord) : (setWord w s).det = s.det := rfl
@[simp] theorem setWord_conds (w : Option WordRecord) : (setWord w s).conds = s.conds := rfl
@[simp] theorem setWord_rx (w : Option WordRecord) : (setWord w s).rx = { s.rx with word := w } := rfl
@[simp] theorem setWord_engine (w : Option WordRecord) : (setWord w s).engine = s.engine := rfl
@[simp] theorem setWord_out (w : Option WordRecord) : (setWord w s).out = s.out := rfl
@[simp] theorem setWord_tx (w : Option WordRecord) : (setWord w s).tx = s.tx := rfl
@[simp] theorem setWord_view (w : Option WordRecord) : (setWord w s).view = s.view := rfl
@[simp] theorem setWord_answer (w : Option WordRecord) : (setWord w s).answer = s.answer := rfl
@[simp] theorem setWord_request (w : Option WordRecord) : (setWord w s).request = s.request := rfl
@[simp] theorem setWord_dial (w : Option WordRecord) : (setWord w s).dial = s.dial := rfl
@[simp] theorem setWord_trunk (w : Option WordRecord) : (setWord w s).trunk = s.trunk := rfl
@[simp] theorem setWord_store (w : Option WordRecord) : (setWord w s).store = s.store := rfl
@[simp] theorem setWord_settings (w : Option WordRecord) : (setWord w s).settings = s.settings := rfl
@[simp] theorem setWord_link (w : Option WordRecord) : (setWord w s).link = s.link := rfl
@[simp] theorem setWord_doze (w : Option WordRecord) : (setWord w s).doze = s.doze := rfl
@[simp] theorem setWord_lamp (w : Option WordRecord) : (setWord w s).lamp = s.lamp := rfl
@[simp] theorem setWord_inbox (w : Option WordRecord) : (setWord w s).inbox = s.inbox := rfl
@[simp] theorem setWord_draws (w : Option WordRecord) : (setWord w s).draws = s.draws := rfl

/-! ### setUnusable -/

@[simp] theorem setUnusable_pending (n : Nat) : (setUnusable n s).pending = s.pending := rfl
@[simp] theorem setUnusable_powered (n : Nat) : (setUnusable n s).powered = s.powered := rfl
@[simp] theorem setUnusable_pins (n : Nat) : (setUnusable n s).pins = s.pins := rfl
@[simp] theorem setUnusable_frame (n : Nat) : (setUnusable n s).frame = s.frame := rfl
@[simp] theorem setUnusable_det (n : Nat) : (setUnusable n s).det = s.det := rfl
@[simp] theorem setUnusable_conds (n : Nat) : (setUnusable n s).conds = s.conds := rfl
@[simp] theorem setUnusable_rx (n : Nat) : (setUnusable n s).rx = { s.rx with unusable := n } := rfl
@[simp] theorem setUnusable_engine (n : Nat) : (setUnusable n s).engine = s.engine := rfl
@[simp] theorem setUnusable_out (n : Nat) : (setUnusable n s).out = s.out := rfl
@[simp] theorem setUnusable_tx (n : Nat) : (setUnusable n s).tx = s.tx := rfl
@[simp] theorem setUnusable_view (n : Nat) : (setUnusable n s).view = s.view := rfl
@[simp] theorem setUnusable_answer (n : Nat) : (setUnusable n s).answer = s.answer := rfl
@[simp] theorem setUnusable_request (n : Nat) : (setUnusable n s).request = s.request := rfl
@[simp] theorem setUnusable_dial (n : Nat) : (setUnusable n s).dial = s.dial := rfl
@[simp] theorem setUnusable_trunk (n : Nat) : (setUnusable n s).trunk = s.trunk := rfl
@[simp] theorem setUnusable_store (n : Nat) : (setUnusable n s).store = s.store := rfl
@[simp] theorem setUnusable_settings (n : Nat) : (setUnusable n s).settings = s.settings := rfl
@[simp] theorem setUnusable_link (n : Nat) : (setUnusable n s).link = s.link := rfl
@[simp] theorem setUnusable_doze (n : Nat) : (setUnusable n s).doze = s.doze := rfl
@[simp] theorem setUnusable_lamp (n : Nat) : (setUnusable n s).lamp = s.lamp := rfl
@[simp] theorem setUnusable_inbox (n : Nat) : (setUnusable n s).inbox = s.inbox := rfl
@[simp] theorem setUnusable_draws (n : Nat) : (setUnusable n s).draws = s.draws := rfl

end Sys2Proof.Machine
end

