-- ==== Sys2Proof/Laws/Footprints.lean ====
section
/-! SUPPORT. The footprint of every shared operation of the blocks: the parts of the state it may change. -/

namespace Sys2Proof.Machine

variable (s : State)

/-! ## Named updates -/

theorem only_emit (e : Event) : OnlyParts [.inbox] s (emit e s) := by
  intro p hp; cases p <;> first | rfl | simp at hp

theorem only_setEntries (l : Lane) (es : List Entry) : OnlyParts [.tx] s (setEntries l es s) := by
  intro p hp; cases p <;> first | rfl | simp at hp

theorem only_setVoice (v : ScriptVoice) (c : CadenceVoice) :
    OnlyParts [.engine] s (setVoice v c s) := by
  intro p hp; cases p <;> first | rfl | simp at hp

theorem only_setSlot (c : Option Call) : OnlyParts [.answer] s (setSlot c s) := by
  intro p hp; cases p <;> first | rfl | simp at hp

theorem only_setRecord (r : Option Request) : OnlyParts [.request] s (setRecord r s) := by
  intro p hp; cases p <;> first | rfl | simp at hp

theorem only_setPendingBreak (b : Option Code) :
    OnlyParts [.request] s (setPendingBreak b s) := by
  intro p hp; cases p <;> first | rfl | simp at hp

theorem only_setDial (d : DialDecoder) : OnlyParts [.dial] s (setDial d s) := by
  intro p hp; cases p <;> first | rfl | simp at hp

theorem only_setLaneFull : OnlyParts [.conds] s (setLaneFull s) := by
  intro p hp; cases p <;> first | rfl | simp at hp

theorem only_setSendAbandoned : OnlyParts [.conds] s (setSendAbandoned s) := by
  intro p hp; cases p <;> first | rfl | simp at hp

/-! ## The Tone Engine -/

theorem voice_start (a : Agent) (sc : Script) : OnlyParts voiceParts s (start a sc s) := by
  have hv := only_setVoice s sc.voice ((s.engine.voice sc.voice).loaded sc a)
  unfold start
  simp only
  split
  · exact only_mono (by decide) (only_emit s _)
  · unfold noteReplaced
    split
    · split
      · exact only_mono (by decide) hv
      · exact only_trans (only_mono (by decide) hv) (only_mono (by decide) (only_emit _ _))
    · exact only_mono (by decide) hv

theorem voice_noteIdle (v : ScriptVoice) : OnlyParts voiceParts s (noteIdle v s) := by
  cases v
  · exact only_refl _ _
  · exact only_mono (by decide) (only_emit s _)

theorem voice_setVoice (v : ScriptVoice) (c : CadenceVoice) :
    OnlyParts voiceParts s (setVoice v c s) := only_mono (by decide) (only_setVoice s v c)

theorem voice_emit (e : Event) : OnlyParts voiceParts s (emit e s) :=
  only_mono (by decide) (only_emit s e)

theorem voice_stopNow (a : Agent) (v : ScriptVoice) : OnlyParts voiceParts s (stopNow a v s) := by
  unfold stopNow
  simp only
  split
  · exact only_trans (voice_setVoice s v _) (voice_noteIdle _ v)
  · exact only_refl _ _

theorem voice_stopAtCycle (a : Agent) (v : ScriptVoice) :
    OnlyParts voiceParts s (stopAtCycle a v s) := by
  unfold stopAtCycle
  simp only
  split
  · exact voice_setVoice s v _
  · exact only_refl _ _

theorem voice_engineOffHook : OnlyParts voiceParts s (engineOffHook s) := by
  intro p hp; cases p <;> first | rfl | simp [voiceParts] at hp

theorem voice_engineHangUp : OnlyParts voiceParts s (engineHangUp s) := by
  have hv : OnlyParts voiceParts s { s with engine.offHook := false } := by
    intro p hp; cases p <;> first | rfl | simp [voiceParts] at hp
  unfold engineHangUp
  simp only
  split
  · exact only_trans hv (only_trans (voice_setVoice _ _ _) (voice_emit _ _))
  · exact only_trans hv (voice_setVoice _ _ _)
  · exact hv

theorem voice_endScript (v : ScriptVoice) : OnlyParts voiceParts s (endScript v s) := by
  unfold endScript
  simp only
  split
  · exact only_trans (voice_setVoice _ _ _) (only_trans (voice_emit _ _) (voice_noteIdle _ _))
  · exact only_trans (voice_setVoice _ _ _) (voice_noteIdle _ _)

/-! ## The Word Transmitter -/

theorem send_emit (e : Event) : OnlyParts sendParts s (emit e s) :=
  only_mono (by decide) (only_emit s e)

theorem send_setEntries (l : Lane) (es : List Entry) : OnlyParts sendParts s (setEntries l es s) :=
  only_mono (by decide) (only_setEntries s l es)

theorem send_noteDisplaced (o : Agent) (e : Entry) :
    OnlyParts sendParts s (noteDisplaced o e s) := by
  unfold noteDisplaced
  split
  · exact only_refl _ _
  · exact send_emit s _

theorem send_noteAll (o : Agent) (es : List Entry) :
    OnlyParts sendParts s (es.foldl (fun t e => noteDisplaced o e t) s) := by
  induction es generalizing s with
  | nil => exact only_refl _ _
  | cons e es ih => exact only_trans (send_noteDisplaced s o e) (ih _)

theorem send_removeRequests (o : Agent) (dst : Code) :
    OnlyParts sendParts s (removeRequests o dst s) :=
  only_trans (send_setEntries s _ _) (send_noteAll _ o _)

theorem send_afterPlacing (o : Agent) (w : LineWord) :
    OnlyParts sendParts s (afterPlacing o w s) := by
  unfold afterPlacing
  split
  · exact send_removeRequests s o w.dst
  · exact only_refl _ _

theorem send_place (o : Agent) (w : LineWord) : OnlyParts sendParts s (place o w s) := by
  unfold place
  simp only
  split
  · exact only_trans (send_setEntries s _ _)
      (only_trans (send_noteDisplaced _ _ _) (send_afterPlacing _ o w))
  · split
    · exact only_trans (send_setEntries s _ _) (send_afterPlacing _ o w)
    · exact only_trans (only_mono (by decide) (only_setLaneFull s)) (send_emit _ _)

theorem send_queue (o : Agent) (k : Kind) (dst : Code) (arg : Option Code) :
    OnlyParts sendParts s (queue o k dst arg s) := by
  unfold queue
  split
  · exact only_refl _ _
  · split
    · exact only_refl _ _
    · exact send_place s o _

theorem send_queueRefuse (o : Agent) (r : Refuse) (dst : Code) :
    OnlyParts sendParts s (queueRefuse o r dst s) := send_queue s _ _ _ _

theorem send_queueRing (o : Agent) (cls : CallClass) (dst : Code) :
    OnlyParts sendParts s (queueRing o cls dst s) := send_queue s _ _ _ _

theorem send_withdraw (o : Agent) (dst : Code) : OnlyParts sendParts s (withdraw o dst s) :=
  only_trans (send_setEntries s _ _) (send_setEntries _ _ _)

/-! ## The Line View -/

theorem view_refreshPrivacy : OnlyParts viewParts s (refreshPrivacy s) := by
  have h : OnlyParts viewParts s { s with out.privacy := privacyTerm s } := by
    intro p hp; cases p <;> first | rfl | simp [viewParts] at hp
  unfold refreshPrivacy privacyTone
  split
  · exact only_trans h (only_mono voice_in_view (voice_start _ _ _))
  · split
    · exact only_trans h (only_mono voice_in_view (voice_stopNow _ _ _))
    · exact h

theorem view_refreshOutputs : OnlyParts viewParts s (refreshOutputs s) := by
  refine only_trans (view_refreshPrivacy s) ?_
  intro p hp; cases p <;> first | rfl | simp [viewParts] at hp

theorem view_noteHeld (b : Bool) : OnlyParts viewParts s (noteHeld b s) := by
  unfold noteHeld
  split
  · exact only_trans (only_mono (by decide) (only_emit s _)) (only_mono (by decide) (only_emit _ _))
  · exact only_refl _ _

theorem view_setView (r : ViewRecord) : OnlyParts viewParts s (setView r s) := by
  have h : OnlyParts viewParts s { s with view.record := r } := by
    intro p hp; cases p <;> first | rfl | simp [viewParts] at hp
  exact only_trans h (only_trans (view_noteHeld _ _) (view_refreshOutputs _))

theorem view_rememberRing (w : LineWord) : OnlyParts viewParts s (rememberRing w s) := by
  intro p hp; cases p <;> first | rfl | simp [viewParts] at hp

theorem view_forgetRing (w : LineWord) : OnlyParts viewParts s (forgetRing w s) := by
  intro p hp; cases p <;> first | rfl | simp [viewParts] at hp

theorem view_settlePending (dst : Code) : OnlyParts viewParts s (settlePending dst s) := by
  have h : OnlyParts viewParts s { s with view.pendingClear := none } := by
    intro p hp; cases p <;> first | rfl | simp [viewParts] at hp
  unfold settlePending
  split
  · exact only_refl _ _
  · split
    · simp only
      split
      · exact only_trans h (view_setView _ _)
      · exact h
    · exact only_refl _ _

theorem view_viewOwnClear : OnlyParts viewParts s (viewOwnClear s) := by
  unfold viewOwnClear
  split
  · split
    · next other _ =>
      refine only_trans (only_mono send_in_view (send_queue s .lineView .clear other none)) ?_
      intro p hp; cases p <;> first | rfl | simp [viewParts] at hp
    · exact only_refl _ _
  · exact only_refl _ _

theorem view_viewNotice (w : LineWord) : OnlyParts viewParts s (viewNotice w s) := by
  unfold viewNotice
  split
  · exact view_settlePending s _
  · exact only_refl _ _

theorem view_idle (n : Nat) : OnlyParts viewParts s { s with view.idle := n } := by
  intro p hp; cases p <;> first | rfl | simp [viewParts] at hp

theorem view_takeAnswer (x y : Code) (k : CallClass) :
    OnlyParts viewParts s (takeAnswer x y k s) :=
  only_trans (view_idle s 0) (view_setView _ _)

theorem view_viewAnswer (x y : Code) : OnlyParts viewParts s (viewAnswer x y s) := by
  unfold viewAnswer
  simp only
  split
  · exact view_takeAnswer s _ _ _
  · exact only_of_ite (only_refl _ _) (only_of_ite (only_refl _ _) (view_takeAnswer s _ _ _))
  · exact only_of_ite (view_takeAnswer s _ _ _)
      (only_of_ite (only_refl _ _) (only_of_ite (only_refl _ _) (view_takeAnswer s _ _ _)))

theorem view_viewClear (p q : Code) (own : Bool) : OnlyParts viewParts s (viewClear p q own s) := by
  have h : OnlyParts viewParts s (if clearFrees s.view.record p q then freeView s else s) :=
    only_of_ite (view_setView s _) (only_refl _ _)
  unfold viewClear
  exact only_of_ite (only_trans h (view_settlePending _ _)) h

theorem view_viewBreak (k t : Code) : OnlyParts viewParts s (viewBreak k t s) := by
  have hs : ∀ u, OnlyParts viewParts s u → OnlyParts viewParts s (start .lineView .breakWarn u) :=
    fun u hu => only_trans hu (only_mono voice_in_view (voice_start _ _ _))
  have hb : OnlyParts viewParts s
      (setView (.broken k t s.view.record.parties)
        (if s.view.record.isFree then { s with view.idle := 0 } else s)) :=
    only_trans (only_of_ite (view_idle s 0) (only_refl _ _)) (view_setView _ _)
  unfold viewBreak
  exact only_of_ite (hs _ hb) hb

theorem view_viewAlert (own : Bool) : OnlyParts viewParts s (viewAlert own s) := by
  unfold viewAlert
  exact only_of_ite (only_refl _ _) (only_mono voice_in_view (voice_start _ _ _))

theorem view_viewWord (own : Bool) (w : LineWord) : OnlyParts viewParts s (viewWord own w s) := by
  unfold viewWord
  split
  · exact view_rememberRing s w
  · exact only_trans (view_viewAnswer s _ _) (view_forgetRing _ w)
  · exact view_forgetRing s w
  · exact only_trans (view_viewClear s _ _ _) (view_forgetRing _ w)
  · exact only_of_ite (view_viewAlert s _) (view_viewBreak s _ _)
  · exact only_refl _ _
  · exact only_refl _ _

theorem view_viewReading (b : Bool) : OnlyParts viewParts s (viewReading b s) := by
  intro p hp; cases p <;> first | rfl | simp [viewParts] at hp

theorem view_viewOffHook : OnlyParts viewParts s (viewOffHook s) := by
  refine only_trans ?_ (view_refreshOutputs _)
  intro p hp; cases p <;> first | rfl | simp [viewParts] at hp

theorem view_viewHangUp : OnlyParts viewParts s (viewHangUp s) := by
  refine only_trans (t := { s with view.offHook := false }) ?_
    (only_trans (view_refreshOutputs _) (view_viewOwnClear _))
  intro p hp; cases p <;> first | rfl | simp [viewParts] at hp

end Sys2Proof.Machine
end

