-- ==== Sys2Proof/Laws/CallFootprints.lean ====
section
/-! SUPPORT. The footprints of the Request Unit, the Answer Unit, the events and the dialling that follow every command. -/

namespace Sys2Proof.Machine

variable (s : State)

/-! ## The Request Unit -/

theorem request_setRecord (r : Option Request) : OnlyParts requestParts s (setRecord r s) :=
  only_mono (by decide) (only_setRecord s r)

theorem request_setPendingBreak (b : Option Code) :
    OnlyParts requestParts s (setPendingBreak b s) :=
  only_mono (by decide) (only_setPendingBreak s b)

theorem request_start (a : Agent) (sc : Script) : OnlyParts requestParts s (start a sc s) :=
  only_mono voice_in_request (voice_start s a sc)

theorem request_stopNow (a : Agent) (v : ScriptVoice) : OnlyParts requestParts s (stopNow a v s) :=
  only_mono voice_in_request (voice_stopNow s a v)

theorem request_queue (o : Agent) (k : Kind) (dst : Code) (arg : Option Code) :
    OnlyParts requestParts s (queue o k dst arg s) :=
  only_mono send_in_request (send_queue s o k dst arg)

theorem request_withdraw (o : Agent) (dst : Code) : OnlyParts requestParts s (withdraw o dst s) :=
  only_mono send_in_request (send_withdraw s o dst)

theorem request_failRequest (r : Request) (why : FailReason) (c : Bool) :
    OnlyParts requestParts s (failRequest r why c s) := by
  have h₁ : ∀ u, OnlyParts requestParts u (withdrawOrClear c r.called u) := fun u => by
    unfold withdrawOrClear
    exact only_of_ite (request_queue u _ _ _ _) (request_withdraw u _ _)
  have h₂ : ∀ u, OnlyParts requestParts u (failureTone why u) := fun u => by
    unfold failureTone
    exact only_of_ite (request_start u _ _) (only_refl _ _)
  have h₃ : ∀ u, OnlyParts requestParts u
      (if r.state = .reverting then stopNow .requestUnit .ringer u else u) := fun u =>
    only_of_ite (request_stopNow u _ _) (only_refl _ _)
  exact only_trans (only_trans (only_trans (request_setRecord s _) (h₁ _)) (h₃ _)) (h₂ _)

theorem request_ringFor (x : Code) (k : CallClass) (away : Bool) :
    OnlyParts requestParts s (ringFor x k away s) :=
  only_trans (request_queue s _ _ _ _) (request_setRecord _ _)

theorem request_dialledCall (u : Bool) (x : Code) :
    OnlyParts requestParts s (dialledCall u x s) := by
  unfold dialledCall
  refine only_of_ite (only_of_ite ?_ ?_) (only_refl _ _)
  · exact only_trans (request_queue s _ _ _ _)
      (only_trans (request_setPendingBreak _ _) (request_start _ _ _))
  · exact only_trans (request_ringFor s _ _ _) (request_start _ _ _)

theorem request_dialledAlert : OnlyParts requestParts s (dialledAlert s) := request_queue s _ _ _ _

theorem request_breakSent (x : Code) : OnlyParts requestParts s (breakSent x s) := by
  unfold breakSent
  exact only_of_ite (only_trans (request_setPendingBreak s none) (request_ringFor _ _ _ _))
    (only_trans (request_setPendingBreak s none) (request_stopNow _ _ _))

theorem request_requestSent (st : RequestState) (x : Code) :
    OnlyParts requestParts s (requestSent st x s) := by
  unfold requestSent
  split
  · exact only_of_ite (request_setRecord s _) (only_refl _ _)
  · exact only_refl _ _

theorem request_ruSent (w : LineWord) : OnlyParts requestParts s (ruSent w s) := by
  unfold ruSent
  split <;> try exact only_refl _ _
  · exact only_of_ite (request_start s _ _)
      (only_of_ite (request_breakSent s _) (only_refl _ _))
  · exact request_requestSent s _ _
  · exact request_requestSent s _ _

theorem request_missedPoll (r : Request) : OnlyParts requestParts s (missedPoll r s) := by
  unfold missedPoll
  exact only_of_ite (only_trans (request_queue s _ _ _ _) (request_setRecord _ _))
    (request_failRequest s _ _ _)

theorem request_ruAbandoned (w : LineWord) : OnlyParts requestParts s (ruAbandoned w s) := by
  unfold ruAbandoned
  split <;> try exact only_refl _ _
  · refine only_of_ite (request_start s _ _) (only_of_ite ?_ (only_refl _ _))
    exact only_trans (request_setPendingBreak s _) (request_failRequest _ _ _ _)
  · unfold ringAbandoned
    split
    · exact only_of_ite (request_failRequest s _ _ _) (only_refl _ _)
    · exact only_refl _ _
  · unfold pollAbandoned
    split
    · exact only_of_ite (request_missedPoll s _) (only_refl _ _)
    · exact only_refl _ _

theorem request_dropRequest (x : Code) : OnlyParts requestParts s (dropRequest x s) :=
  only_trans (request_withdraw s _ _) (only_trans (request_stopNow _ _ _) (request_setRecord _ _))

theorem request_holdTaken (r : Request) : OnlyParts requestParts s (holdTaken r s) := by
  unfold holdTaken
  exact only_of_ite
    (only_trans (request_setRecord s _) (only_trans (request_withdraw _ _ _) (request_start _ _ _)))
    (only_trans (request_setRecord s _) (request_withdraw _ _ _))

theorem request_answerTaken (r : Request) : OnlyParts requestParts s (answerTaken r s) := by
  have h := request_withdraw s .requestUnit r.called
  unfold answerTaken
  refine only_of_ite (only_trans h (request_setRecord _ _)) (only_of_ite ?_ ?_)
  · exact only_trans h (only_trans (request_setRecord _ _) (request_stopNow _ _ _))
  · exact only_trans h (only_trans (request_setRecord _ _) (request_start _ _ _))

theorem request_replyTaken (r : Request) (w : LineWord) :
    OnlyParts requestParts s (replyTaken r w s) := by
  unfold replyTaken
  split <;> try exact only_refl _ _
  · exact request_holdTaken s r
  · exact only_of_ite (request_dropRequest s _) (request_failRequest s _ _ _)
  · exact request_failRequest s _ _ _
  · exact request_answerTaken s r

theorem request_ruWord (w : LineWord) : OnlyParts requestParts s (ruWord w s) := by
  unfold ruWord
  split
  · exact only_refl _ _
  · refine only_of_ite ?_ (only_refl _ _)
    split
    · exact request_replyTaken s _ w
    · exact request_replyTaken s _ w
    · unfold replyInRevert
      exact only_of_ite (request_failRequest s _ _ _) (only_refl _ _)
    · exact only_refl _ _

theorem request_yieldTo (x : Code) : OnlyParts requestParts s (yieldTo x s) := by
  unfold yieldTo
  split
  · exact request_dropRequest s x
  · exact only_refl _ _

theorem request_ruHeldByOthers : OnlyParts requestParts s (ruHeldByOthers s) := by
  unfold ruHeldByOthers
  split
  · exact only_of_ite (request_failRequest s _ _ _) (only_refl _ _)
  · exact only_refl _ _

theorem request_hook (b : Bool) : OnlyParts requestParts s { s with request.offHook := b } := by
  intro p hp; cases p <;> first | rfl | simp [requestParts] at hp

theorem request_abandonRequest (r : Request) : OnlyParts requestParts s (abandonRequest r s) :=
  only_trans (request_queue s _ _ _ _) (request_setRecord _ _)

theorem request_ruOffHook : OnlyParts requestParts s (ruOffHook s) := by
  have h := request_hook s true
  unfold ruOffHook
  simp only
  split
  · exact h
  · refine only_trans h ?_
    split
    · unfold liftDuring
      exact only_of_ite (only_of_ite (request_abandonRequest _ _)
        (only_trans (request_setRecord _ _) (request_start _ _ _))) (only_refl _ _)
    · unfold liftDuring
      exact only_of_ite (only_of_ite (request_abandonRequest _ _)
        (only_trans (request_setRecord _ _) (request_start _ _ _))) (only_refl _ _)
    · unfold liftInRevert
      exact only_of_ite (request_failRequest _ _ _ _)
        (only_trans (request_setRecord _ _) (request_stopNow _ _ _))
    · unfold liftInFailed
      exact only_of_ite (only_trans (request_setRecord _ _) (request_start _ _ _)) (only_refl _ _)

theorem request_cancelBreak : OnlyParts requestParts s (cancelBreak s) := by
  unfold cancelBreak
  split
  · exact only_trans (request_withdraw s _ _) (request_setPendingBreak _ _)
  · exact only_refl _ _

theorem request_hangUpDuring (r : Request) : OnlyParts requestParts s (hangUpDuring r s) := by
  unfold hangUpDuring
  exact only_of_ite (request_abandonRequest s _)
    (only_of_ite (only_refl _ _) (request_setRecord s _))

theorem request_ruHangUp : OnlyParts requestParts s (ruHangUp s) := by
  have h := only_trans (request_hook s false) (request_cancelBreak _)
  unfold ruHangUp
  simp only
  split
  · exact h
  · refine only_trans h ?_
    split
    · exact request_hangUpDuring _ _
    · exact request_hangUpDuring _ _
    · exact only_refl _ _
    · exact request_setRecord _ _

theorem request_ruFinish (sc : Script) : OnlyParts requestParts s (ruFinish sc s) := by
  unfold ruFinish
  split
  · split <;> try exact only_refl _ _
    exact only_of_ite (request_start s _ _) (only_refl _ _)
  · exact only_refl _ _

theorem request_ruOriginate (x : Code) : OnlyParts requestParts s (ruOriginate x s) :=
  request_ringFor s x .trunk true

theorem request_ruCancel : OnlyParts requestParts s (ruCancel s) := by
  unfold ruCancel
  split
  · exact only_of_ite (request_abandonRequest s _) (only_refl _ _)
  · exact only_refl _ _

theorem request_onRecord (f : Request → State → State)
    (h : ∀ r, OnlyParts requestParts s (f r s)) : OnlyParts requestParts s (onRecord f s) := by
  unfold onRecord
  split
  · exact h _
  · exact only_refl _ _

theorem request_takeRingReply : OnlyParts requestParts s (takeRingReply s) :=
  request_onRecord s _ fun _ => only_of_ite
    (only_trans (request_queue s _ _ _ _) (request_setRecord _ _)) (request_failRequest s _ _ _)

theorem request_takeDelay : OnlyParts requestParts s (takeDelay s) :=
  request_onRecord s _ fun _ => only_trans (request_queue s _ _ _ _) (request_setRecord _ _)

theorem request_takePollReply : OnlyParts requestParts s (takePollReply s) :=
  request_onRecord s _ fun r => request_missedPoll s r

theorem request_takeRevert : OnlyParts requestParts s (takeRevert s) :=
  request_onRecord s _ fun r => request_failRequest s r _ _

theorem request_takeShow : OnlyParts requestParts s (takeShow s) := request_setRecord s none

theorem request_tickRecord : OnlyParts requestParts s (tickRecord s) := by
  intro p hp; cases p <;> first | rfl | simp [requestParts] at hp

/-! ## The Answer Unit -/

theorem answer_setSlot (c : Option Call) : OnlyParts answerParts s (setSlot c s) :=
  only_mono (by decide) (only_setSlot s c)

theorem answer_start (a : Agent) (sc : Script) : OnlyParts answerParts s (start a sc s) :=
  only_mono voice_in_answer (voice_start s a sc)

theorem answer_stopNow (a : Agent) (v : ScriptVoice) : OnlyParts answerParts s (stopNow a v s) :=
  only_mono voice_in_answer (voice_stopNow s a v)

theorem answer_stopAtCycle (a : Agent) (v : ScriptVoice) :
    OnlyParts answerParts s (stopAtCycle a v s) :=
  only_mono voice_in_answer (voice_stopAtCycle s a v)

theorem answer_queue (o : Agent) (k : Kind) (dst : Code) (arg : Option Code) :
    OnlyParts answerParts s (queue o k dst arg s) :=
  only_mono send_in_answer (send_queue s o k dst arg)

theorem answer_queueRefuse (o : Agent) (r : Refuse) (dst : Code) :
    OnlyParts answerParts s (queueRefuse o r dst s) := answer_queue s _ _ _ _

theorem answer_withdraw (o : Agent) (dst : Code) : OnlyParts answerParts s (withdraw o dst s) :=
  only_mono send_in_answer (send_withdraw s o dst)

theorem answer_letGo (c : Call) : OnlyParts answerParts s (letGo c s) :=
  only_trans (answer_setSlot s _) (answer_withdraw _ _ _)

theorem answer_viewRelease : OnlyParts answerParts s (viewRelease s) :=
  only_mono view_in_answer (view_viewOwnClear s)

theorem answer_takeRing (x : Code) (k : CallClass) : OnlyParts answerParts s (takeRing x k s) := by
  have h := answer_queue s .answerUnit .hold x none
  unfold takeRing
  refine only_of_ite ?_ (only_of_ite ?_ ?_)
  all_goals exact only_trans h (only_trans (answer_setSlot _ _) (answer_start _ _ _))

theorem answer_trunkEndRing (x : Code) (k : CallClass) :
    OnlyParts answerParts s (trunkEndRing x k s) := by
  have h := only_trans (answer_queue s .answerUnit .hold x none)
    (answer_setSlot _ (some (answeredCall x k)))
  unfold trunkEndRing
  exact only_of_ite (answer_queueRefuse s _ _ _)
    (only_of_ite (only_trans h (answer_viewRelease _)) h)

theorem answer_ringPastGlare (x : Code) (k : CallClass) :
    OnlyParts answerParts s (ringPastGlare x k s) := by
  unfold ringPastGlare
  split
  · unfold ringMeetsCall
    refine only_of_ite ?_ (answer_queueRefuse s _ _ _)
    exact only_trans (answer_withdraw s _ _) (only_trans (answer_setSlot _ _)
      (only_trans (answer_start _ _ _) (answer_queue _ _ _ _ _)))
  · unfold ringToEmpty
    split
    · exact answer_queueRefuse s _ _ _
    · exact only_of_ite (answer_trunkEndRing s x k) (answer_takeRing s x k)

theorem answer_ringAgainstRecord (x : Code) (k : CallClass) :
    OnlyParts answerParts s (ringAgainstRecord x k s) := by
  unfold ringAgainstRecord
  split
  · refine only_of_ite (only_of_ite (only_of_ite (answer_queueRefuse s _ _ _) ?_)
      (answer_queueRefuse s _ _ _)) (answer_ringPastGlare s x k)
    exact only_trans (only_mono request_in_answer (request_yieldTo s x))
      (answer_ringPastGlare _ x k)
  · exact answer_ringPastGlare s x k

theorem answer_auPoll (x : Code) : OnlyParts answerParts s (auPoll x s) := by
  unfold auPoll
  split
  · refine only_of_ite ?_ (answer_queueRefuse s _ _ _)
    unfold pollMatching
    split
    · exact only_trans (answer_queue s _ _ _ _) (answer_setSlot _ _)
    · exact only_trans (answer_queue s _ _ _ _)
        (only_trans (answer_setSlot _ _) (answer_stopNow _ _ _))
    · exact only_trans (answer_queue s _ _ _ _) (answer_setSlot _ _)
    · exact only_trans (answer_queueRefuse s _ _ _) (answer_setSlot _ _)
  · exact answer_queueRefuse s _ _ _

theorem answer_auClear (x : Code) : OnlyParts answerParts s (auClear x s) := by
  have h : ∀ c u, OnlyParts answerParts u (clearSounding c u) := fun c u => by
    unfold clearSounding
    split <;> first
      | exact answer_stopAtCycle u _ _ | exact answer_stopNow u _ _ | exact answer_start u _ _
      | exact only_refl _ _
  unfold auClear
  split
  · exact only_of_ite (only_trans (answer_setSlot s _) (only_trans (h _ _) (answer_withdraw _ _ _)))
      (only_refl _ _)
  · exact only_refl _ _

theorem answer_auWord (w : LineWord) : OnlyParts answerParts s (auWord w s) := by
  unfold auWord
  split <;> try exact only_refl _ _
  · unfold auRing
    exact only_of_ite (answer_auPoll s _) (answer_ringAgainstRecord s _ _)
  · exact answer_auPoll s _
  · exact answer_auClear s _

theorem answer_countCycle (c : Call) (v : ScriptVoice) :
    OnlyParts answerParts s (countCycle c v s) := by
  unfold countCycle
  exact only_of_ite (only_trans (answer_setSlot s _) (answer_stopNow _ _ _)) (answer_setSlot s _)

theorem answer_auCycle (sc : Script) : OnlyParts answerParts s (auCycle sc s) := by
  unfold auCycle
  split
  · split <;> try exact only_refl _ _
    · exact only_of_ite (answer_countCycle s _ _) (only_refl _ _)
    · refine only_of_ite ?_ (only_refl _ _)
      unfold countMark
      exact only_of_ite (answer_setSlot s _) (answer_countCycle s _ _)
  · exact only_refl _ _

theorem answer_auRingerFree : OnlyParts answerParts s (auRingerFree s) := by
  unfold auRingerFree
  split
  · exact only_of_ite (answer_start s _ _) (only_refl _ _)
  · exact only_refl _ _

theorem answer_hook (b : Bool) : OnlyParts answerParts s { s with answer.offHook := b } := by
  intro p hp; cases p <;> first | rfl | simp [answerParts] at hp

theorem answer_auOffHook : OnlyParts answerParts s (auOffHook s) := by
  have h := answer_hook s true
  unfold auOffHook
  simp only
  split
  · exact only_trans h (answer_stopNow _ _ _)
  · refine only_trans h ?_
    split
    · exact only_trans (answer_setSlot _ _)
        (only_trans (answer_stopNow _ _ _) (answer_start _ _ _))
    · exact only_refl _ _
    · exact answer_stopNow _ _ _
    · exact answer_stopNow _ _ _
    · exact answer_stopNow _ _ _

theorem answer_auFlash : OnlyParts answerParts s (auFlash s) := by
  unfold auFlash
  split
  · refine only_of_ite ?_ (only_refl _ _)
    exact only_trans (answer_setSlot s _) (only_trans (answer_stopNow _ _ _)
      (only_trans (answer_start _ _ _) (answer_viewRelease _)))
  · exact only_refl _ _

theorem answer_auHangUp : OnlyParts answerParts s (auHangUp s) := by
  have h := answer_hook s false
  unfold auHangUp
  simp only
  split
  · exact h
  · refine only_trans h ?_
    split
    · exact only_trans (answer_setSlot _ _) (answer_start _ _ _)
    · exact only_trans (answer_queue _ _ _ _ _) (answer_setSlot _ _)
    · unfold hangUpDelivered
      exact only_of_ite (answer_letGo _ _)
        (only_trans (answer_queue _ _ _ _ _) (answer_setSlot _ _))
    · exact only_refl _ _
    · exact only_refl _ _

theorem answer_auHeldByOthers : OnlyParts answerParts s (auHeldByOthers s) := by
  unfold auHeldByOthers
  split
  · exact only_of_ite (only_trans (answer_setSlot s _)
      (only_trans (answer_stopAtCycle _ _ _) (answer_queueRefuse _ _ _ _))) (only_refl _ _)
  · exact only_refl _ _

theorem answer_onCall (f : Call → State → State) (h : ∀ c, OnlyParts answerParts s (f c s)) :
    OnlyParts answerParts s (onCall f s) := by
  unfold onCall
  split
  · exact h _
  · exact only_refl _ _

theorem answer_takeCompletionHold : OnlyParts answerParts s (takeCompletionHold s) :=
  answer_onCall s _ fun c => only_trans (answer_letGo s c) (answer_start _ _ _)

theorem answer_takeLinger : OnlyParts answerParts s (takeLinger s) :=
  answer_onCall s _ fun c => answer_letGo s c

theorem answer_takePollLoss : OnlyParts answerParts s (takePollLoss s) := by
  refine answer_onCall s _ fun c => only_trans (answer_letGo s c) ?_
  unfold lossSounding
  split <;> first
    | exact answer_stopAtCycle _ _ _ | exact answer_stopNow _ _ _ | exact only_refl _ _

theorem answer_tickSlot : OnlyParts answerParts s (tickSlot s) := by
  intro p hp; cases p <;> first | rfl | simp [answerParts] at hp

/-! ## Events, and the dialling that follows -/

theorem answer_takeEvent (e : Event) : OnlyParts answerParts s (takeEvent e s) := by
  cases e with
  | sent o w =>
    cases o
    · exact only_refl _ _
    · exact only_mono request_in_answer (request_ruSent s w)
    · exact only_mono view_in_answer (view_viewNotice s w)
    · exact only_refl _ _
  | abandoned o w c =>
    cases o
    · exact only_refl _ _
    · exact only_mono request_in_answer (request_ruAbandoned s w)
    · exact only_mono view_in_answer (view_viewNotice s w)
    · exact only_refl _ _
  | lost a sc => exact only_refl _ _
  | finish a sc =>
    cases a <;> first | exact only_refl _ _ | exact only_mono request_in_answer (request_ruFinish s sc)
  | ringerFree => exact answer_auRingerFree s
  | heldByOthers a =>
    cases a
    · exact answer_auHeldByOthers s
    · exact only_mono request_in_answer (request_ruHeldByOthers s)
    · exact only_refl _ _
    · exact only_refl _ _

theorem answer_inbox (es : List Event) : OnlyParts answerParts s { s with inbox := es } := by
  intro p hp; cases p <;> first | rfl | simp [answerParts] at hp

theorem answer_drain (n : Nat) : OnlyParts answerParts s (drain n s) := by
  induction n generalizing s with
  | zero => exact answer_inbox s []
  | succ n ih =>
    unfold drain
    split
    · exact only_refl _ _
    · exact only_trans (answer_inbox s _) (only_trans (answer_takeEvent _ _) (ih _))

theorem call_followDial : OnlyParts callParts s (followDial s) := by
  unfold followDial
  refine only_of_ite ?_ (only_refl _ _)
  intro p hp; cases p <;> first | rfl | simp [callParts] at hp

/-- What follows a command changes the blocks of the calls, and nothing else. -/
theorem call_finish : OnlyParts callParts s (finish s) :=
  only_trans (only_mono answer_in_call (answer_drain s _)) (call_followDial _)

/-- No event is left once a command's events are taken. -/
theorem drain_inbox (n : Nat) : (drain n s).inbox = [] := by
  induction n generalizing s with
  | zero => rfl
  | succ n ih =>
    unfold drain
    split
    · assumption
    · exact ih _

theorem followDial_inbox : (followDial s).inbox = s.inbox := by
  unfold followDial
  split <;> rfl

theorem finish_inbox : (finish s).inbox = [] := by
  unfold finish
  rw [followDial_inbox, drain_inbox]

/-- With no event raised, only the dialling follows. -/
theorem finish_quiet (h : s.inbox = []) : finish s = followDial s := by
  unfold finish drainFuel drain
  split
  · rfl
  · next e rest he => rw [h] at he; cases he

end Sys2Proof.Machine
end

