-- ==== Sys2Proof/Laws/StepFootprints.lean ====
section
/-! SUPPORT. The footprints of the steps that can stand due: none but a restart touches the settings in force, the supply, the pins, the framing, the queue or the lamp. -/

namespace Sys2Proof.Machine

variable (s : State)

/-- What the part's own steps may change, a restart apart. -/
def stepParts : List Part :=
  [.det, .rx, .trunk, .store, .link, .doze, .dial, .answer, .request, .view, .out, .engine, .tx,
    .conds, .inbox]

theorem call_in_step : callParts ⊆ stepParts := by decide
theorem answer_in_step : answerParts ⊆ stepParts := by decide
theorem request_in_step : requestParts ⊆ stepParts := by decide
theorem view_in_step : viewParts ⊆ stepParts := by decide
theorem voice_in_step : voiceParts ⊆ stepParts := by decide
theorem send_in_step : sendParts ⊆ stepParts := by decide

/-- A step taken when due changes no more than the step. -/
theorem only_whenDue {ps : List Part} (due : State → Bool) (take : State → State)
    (h : OnlyParts ps s (take s)) : OnlyParts ps s (whenDue due take s) :=
  only_of_ite h (only_refl _ _)

theorem step_finish : OnlyParts stepParts s (finish s) := only_mono call_in_step (call_finish s)

/-- A step taken when due, and its events. -/
theorem step_whenDueFinish (due : State → Bool) (take : State → State)
    (h : OnlyParts stepParts s (take s)) : OnlyParts stepParts s (whenDueFinish due take s) :=
  only_of_ite (only_trans h (step_finish _)) (only_refl _ _)

/-! ## Small updates -/

theorem step_setDial (d : DialDecoder) : OnlyParts stepParts s (setDial d s) :=
  only_mono (by decide) (only_setDial s d)

theorem step_wake : OnlyParts stepParts s (wake s) := by
  unfold wake
  refine only_of_ite ?_ (only_refl _ _)
  intro p hp; cases p <;> first | rfl | simp [stepParts] at hp

theorem step_setTrunk (t : TrunkInterface) : OnlyParts stepParts s (setTrunk t s) := by
  intro p hp; cases p <;> first | rfl | simp [stepParts] at hp

theorem step_link (l : SetupLink) : OnlyParts stepParts s { s with link := l } := by
  intro p hp; cases p <;> first | rfl | simp [stepParts] at hp

theorem step_rx (r : Receiver) (c : Conditions) :
    OnlyParts stepParts s { s with rx := r, conds := c } := by
  intro p hp; cases p <;> first | rfl | simp [stepParts] at hp

theorem step_tx (t : Transmitter) (e : Engine) :
    OnlyParts stepParts s { s with tx := t, engine := e } := by
  intro p hp; cases p <;> first | rfl | simp [stepParts] at hp

theorem step_store (x : Store) : OnlyParts stepParts s { s with store := x } := by
  intro p hp; cases p <;> first | rfl | simp [stepParts] at hp

/-! ## Receiver and transmitter -/

theorem step_breakWord : OnlyParts stepParts s (breakWord s) := by
  unfold breakWord
  split
  · exact step_rx s _ _
  · exact only_refl _ _

theorem step_settleReceiver : OnlyParts stepParts s (settleReceiver s) := by
  have un : ∀ u, OnlyParts stepParts u (settleUnusable u) := fun u =>
    only_whenDue u _ _ (only_trans (step_breakWord u) (step_rx _ _ _))
  have ov : ∀ u, OnlyParts stepParts u (settleOverLong u) := fun u =>
    only_whenDue u _ _ (only_trans (step_breakWord u) (step_rx _ _ _))
  have dr : ∀ u, OnlyParts stepParts u (dropOpening u) := by
    intro u; unfold dropOpening; repeat' split
    all_goals first | exact only_refl _ _ | exact step_rx u _ _
  have st : ∀ u, OnlyParts stepParts u (settleStuck u) := fun u =>
    only_whenDue u _ _ (only_trans (step_rx u _ _) (only_trans (dr _) (step_rx _ _ _)))
  have ga : ∀ u, OnlyParts stepParts u (settleGapLimit u) := fun u =>
    only_whenDue u _ _ (step_breakWord u)
  exact only_trans (only_trans (only_trans (un s) (ov _)) (st _)) (ga _)

theorem step_startAttempt (l : Lane) (c : Bool) : OnlyParts stepParts s (startAttempt l c s) := by
  unfold startAttempt lineHold
  simp only
  split <;> exact step_tx s _ _

theorem step_applyWaiting : OnlyParts stepParts s (applyWaiting s) := by
  unfold applyWaiting
  repeat' split
  all_goals first | exact only_refl _ _ | exact step_tx s _ _

theorem step_settleTransmitter : OnlyParts stepParts s (settleTransmitter s) := by
  have bo : ∀ u, OnlyParts stepParts u (settleBackOff u) := fun u =>
    only_whenDue u _ _ (only_trans (step_tx u _ _) (step_applyWaiting _))
  have sa : ∀ u, OnlyParts stepParts u (settleStart u) := fun u => only_whenDue u _ _ (by
    unfold takeStart; split
    · exact step_startAttempt u _ _
    · exact step_tx u _ _)
  have ta : ∀ u, OnlyParts stepParts u (settleTalkOver u) := fun u =>
    only_whenDue u _ _ (step_startAttempt u _ _)
  have rw' : ∀ u, OnlyParts stepParts u (settleRequestWait u) := fun u =>
    step_whenDueFinish u _ _ (by
      unfold takeRequestWaitLimit; split
      · exact only_refl _ _
      · exact only_trans (step_tx u _ _) (only_mono (by decide) (only_emit _ _)))
  exact only_trans (only_trans (only_trans (bo s) (sa _)) (ta _)) (rw' _)

/-! ## Scripts -/

theorem step_setVoice (v : ScriptVoice) (c : CadenceVoice) : OnlyParts stepParts s (setVoice v c s) :=
  only_mono voice_in_step (voice_setVoice s v c)

theorem step_sendCycle (a : Option Agent) (sc : Script) : OnlyParts stepParts s (sendCycle a sc s) := by
  unfold sendCycle
  split
  · exact only_mono answer_in_step (answer_auCycle s sc)
  all_goals exact only_refl _ _

/-- Executing a script changes the voice, and by CYCLE the slot. -/
theorem step_runScript (n : Nat) (v : ScriptVoice) (i : Nat) :
    OnlyParts stepParts s (runScript n v i s) := by
  induction n generalizing s i with
  | zero => exact only_refl _ _
  | succ n ih =>
    have en : OnlyParts stepParts s (endScript v s) := only_mono voice_in_step (voice_endScript s v)
    unfold runScript
    simp only
    split
    · exact only_refl _ _
    · split
      · exact en
      · exact step_setVoice s _ _
      · exact step_setVoice s _ _
      · split
        · exact en
        · exact only_trans (step_sendCycle s _ _) (ih _ _)
      · split
        · exact only_trans (step_setVoice s _ _) (ih _ _)
        · exact en
      · exact en

theorem step_settleScript (v : ScriptVoice) : OnlyParts stepParts s (settleScript v s) :=
  only_whenDue s _ _ (only_trans (step_runScript s _ _ _) (step_finish _))

/-! ## Hook and dial -/

/-- What three actions may change, they may change in every order. -/
theorem only_inOrder {ps : List Part} (o : DeliveryOrder) (f g h : State → State)
    (hf : ∀ u, OnlyParts ps u (f u)) (hg : ∀ u, OnlyParts ps u (g u))
    (hh : ∀ u, OnlyParts ps u (h u)) : OnlyParts ps s (inOrder o f g h s) := by
  cases o
  · exact only_trans (only_trans (hf s) (hg _)) (hh _)
  · exact only_trans (only_trans (hf s) (hh _)) (hg _)
  · exact only_trans (only_trans (hg s) (hf _)) (hh _)
  · exact only_trans (only_trans (hg s) (hh _)) (hf _)
  · exact only_trans (only_trans (hh s) (hf _)) (hg _)
  · exact only_trans (only_trans (hh s) (hg _)) (hf _)

theorem step_reportOffHook (o : DeliveryOrder) : OnlyParts stepParts s (reportOffHook o s) :=
  only_trans (only_mono voice_in_step (voice_engineOffHook s))
    (only_inOrder _ o _ _ _ (fun u => only_mono view_in_step (view_viewOffHook u))
      (fun u => only_mono answer_in_step (answer_auOffHook u))
      (fun u => only_mono request_in_step (request_ruOffHook u)))

theorem step_takeHangUp (o : DeliveryOrder) : OnlyParts stepParts s (takeHangUp o s) :=
  only_trans (only_trans (step_setDial s _)
    (only_trans (only_mono voice_in_step (voice_engineHangUp _))
      (only_inOrder _ o _ _ _ (fun u => only_mono view_in_step (view_viewHangUp u))
        (fun u => only_mono answer_in_step (answer_auHangUp u))
        (fun u => only_mono request_in_step (request_ruHangUp u))))) (step_finish _)

theorem step_changeHook (o : DeliveryOrder) : OnlyParts stepParts s (changeHook o s) := by
  have ep : ∀ u, OnlyParts stepParts u (endPeriod o u) := by
    intro u
    unfold endPeriod
    simp only
    split
    · exact step_setDial u _
    · split
      · exact only_trans (step_setDial u _) (only_mono answer_in_step (answer_auFlash _))
      · exact only_trans (step_setDial u _) (step_reportOffHook _ o)
  unfold changeHook
  split
  · exact only_trans (only_trans (step_wake s) (step_setDial _ _)) (step_reportOffHook _ o)
  · exact step_setDial s _
  · exact step_setDial s _
  · exact only_trans (step_wake s) (ep _)
  all_goals exact only_refl _ _

theorem step_takeHookChange (o : DeliveryOrder) : OnlyParts stepParts s (takeHookChange o s) :=
  only_trans (only_trans (only_of_ite (step_takeHangUp s o) (only_refl _ _)) (step_changeHook _ o))
    (step_finish _)

theorem step_settleDialling (r : Dialled) : OnlyParts stepParts s (settleDialling r s) := by
  have rej : ∀ sc, OnlyParts stepParts s (rejectDialling sc s) := fun sc =>
    only_trans (step_setDial s _) (only_mono voice_in_step (voice_start _ _ _))
  unfold settleDialling
  split
  · exact rej _
  · exact step_setDial s _
  · split
    · exact only_trans (step_setDial s _) (only_mono request_in_step (request_dialledAlert _))
    · exact rej _
  · split
    · exact rej _
    · exact only_trans (step_setDial s _) (only_mono request_in_step (request_dialledCall _ _ _))

theorem step_settleLocal : OnlyParts stepParts s (settleLocal s) := by
  have hu : ∀ o u, OnlyParts stepParts u (settleHangUp o u) := fun o u =>
    only_whenDue u _ _ (step_takeHangUp u o)
  have hc : ∀ o u, OnlyParts stepParts u (settleHookChange o u) := fun o u =>
    only_whenDue u _ _ (step_takeHookChange u o)
  have pu : ∀ u, OnlyParts stepParts u (settlePulse u) := fun u =>
    only_whenDue u _ _ (step_setDial u _)
  have iv : ∀ u, OnlyParts stepParts u (settleInvalidDigit u) := fun u => only_whenDue u _ _
    (only_trans (only_trans (step_setDial u _) (only_mono voice_in_step (voice_start _ _ _)))
      (step_finish _))
  have de : ∀ u, OnlyParts stepParts u (settleDigitEnd u) := fun u => only_whenDue u _ _
    (only_trans (only_trans (step_setDial u _) (step_settleDialling _ _)) (step_finish _))
  have br : ∀ u, OnlyParts stepParts u (settleBarredRelease u) := fun u =>
    only_whenDue u _ _ (step_setDial u _)
  have dw : ∀ u, OnlyParts stepParts u (settleDigitWait u) := fun u => only_whenDue u _ _
    (only_trans (only_trans (step_setDial u _) (step_settleDialling _ _)) (step_finish _))
  unfold settleLocal
  exact only_trans (step_settleScript s _) (only_trans (step_settleScript _ _)
    (only_trans (hu _ _) (only_trans (hc _ _) (only_trans (iv _) (only_trans (pu _)
      (only_trans (de _) (only_trans (br _) (dw _))))))))

/-! ## Calls and trunk -/

theorem step_settleSlot : OnlyParts stepParts s (settleSlot s) :=
  only_trans (only_trans
    (step_whenDueFinish s _ _ (only_mono answer_in_step (answer_takeCompletionHold s)))
    (step_whenDueFinish _ _ _ (only_mono answer_in_step (answer_takeLinger _))))
    (step_whenDueFinish _ _ _ (only_mono answer_in_step (answer_takePollLoss _)))

theorem step_settleRecord : OnlyParts stepParts s (settleRecord s) :=
  only_trans (step_whenDueFinish s _ _ (only_mono request_in_step (request_takeRingReply s)))
    (only_trans (step_whenDueFinish _ _ _ (only_mono request_in_step (request_takeDelay _)))
      (only_trans (step_whenDueFinish _ _ _ (only_mono request_in_step (request_takePollReply _)))
        (only_trans (step_whenDueFinish _ _ _ (only_mono request_in_step (request_takeRevert _)))
          (step_whenDueFinish _ _ _ (only_mono request_in_step (request_takeShow _))))))

theorem step_settleLineIdle : OnlyParts stepParts s (settleLineIdle s) :=
  step_whenDueFinish s _ _ (only_mono view_in_step (view_setView s _))

theorem step_takeTrunkLapse : OnlyParts stepParts s (takeTrunkLapse s) :=
  only_trans (only_of_ite (only_mono request_in_step (request_ruCancel s)) (only_refl _ _))
    (step_setTrunk _ _)

theorem step_takeOriginate : OnlyParts stepParts s (takeOriginate s) := by
  unfold takeOriginate
  split
  · exact only_trans (step_setTrunk s _) (only_mono request_in_step (request_ruOriginate _ _))
  · exact only_refl _ _

theorem step_settleTest : OnlyParts stepParts s (settleTest s) :=
  only_trans (step_whenDueFinish s _ _ (step_takeOriginate s)) (step_setTrunk _ _)

theorem step_settleCalls : OnlyParts stepParts s (settleCalls s) :=
  only_trans (step_settleLineIdle s) (only_trans (step_settleSlot _)
    (only_trans (step_settleRecord _)
      (only_trans (step_whenDueFinish _ _ _ (step_takeTrunkLapse _)) (step_settleTest _))))

/-! ## Setup link, store, doze -/

theorem step_reply (st : Status) (d : List Byte) : OnlyParts stepParts s (reply st d s) :=
  step_link s _

theorem step_goOffline : OnlyParts stepParts s (goOffline s) := by
  intro p hp; cases p <;> first | rfl | simp [stepParts] at hp

theorem step_carryOut (c : SetupCommand) : OnlyParts stepParts s (carryOut c s) := by
  have ar : OnlyParts stepParts s (acceptRestart s) := only_trans (step_link s _) (step_reply _ _ _)
  have bu : ∀ f : State → State, OnlyParts stepParts s (f s) →
      OnlyParts stepParts s (unlessBusy f s) := fun f h => only_of_ite (step_reply s _ _) h
  cases c with
  | read n =>
    unfold carryOut judgeRead
    refine bu _ ?_
    exact only_of_ite (step_reply s _ _) (step_reply s _ _)
  | enterSetup =>
    exact only_of_ite (step_reply s _ _)
      (only_of_ite (only_trans (step_goOffline s) (step_reply _ _ _)) (step_reply s _ _))
  | leaveSetup =>
    unfold carryOut judgeLeave
    refine bu _ ?_
    exact only_of_ite ar (step_reply s _ _)
  | erase =>
    unfold carryOut judgeErase
    refine bu _ ?_
    exact only_of_ite (only_trans (step_store s _) (step_reply _ _ _)) (step_reply s _ _)
  | write n v =>
    unfold carryOut judgeWrite
    refine bu _ ?_
    exact only_trans (only_of_ite (step_store s _) (only_refl _ _)) (step_reply _ _ _)
  | conditions => exact step_reply s _ _
  | clearConditions => exact only_trans (step_rx s s.rx _) (step_reply _ _ _)
  | stateReport => exact step_reply s _ _
  | restart => exact bu _ ar
  | bad b => exact step_reply s _ _

theorem step_settleCommand : OnlyParts stepParts s (settleCommand s) :=
  step_whenDueFinish s _ _ (by
    unfold takeCommand
    split
    · exact only_trans (step_link s _) (step_carryOut _ _)
    · exact only_refl _ _)

theorem step_settleBytes : OnlyParts stepParts s (settleBytes s) :=
  only_trans (step_settleCommand s) (only_whenDue _ _ _ (step_link _ _))

/-- A setup command, whole. -/
theorem step_arriveCommand (c : SetupCommand) : OnlyParts stepParts s (arriveCommand c s) := by
  have rest : ∀ u, OnlyParts stepParts u (receiveRest c u) := fun u =>
    only_of_ite (only_trans (only_trans (step_wake u) (step_link _ _)) (step_carryOut _ _))
      (only_refl _ _)
  exact only_of_ite (step_settleCommand s)
    (only_trans (only_trans (step_settleBytes s) (rest _)) (step_finish _))

theorem step_settleLink : OnlyParts stepParts s (settleLink s) :=
  only_trans (only_whenDue s _ _ (step_link s _)) (step_settleBytes _)

theorem step_settleStore : OnlyParts stepParts s (settleStore s) := by
  have er : ∀ u, OnlyParts stepParts u (takeEraseComplete u) := by
    intro u; unfold takeEraseComplete; split <;> exact step_store u _
  have wr : ∀ u, OnlyParts stepParts u (takeWriteComplete u) := by
    intro u; unfold takeWriteComplete; split <;> exact step_store u _
  exact only_trans (only_whenDue s _ _ (er s)) (only_whenDue _ _ _ (wr _))

theorem step_settleReplyStart : OnlyParts stepParts s (settleReplyStart s) :=
  only_whenDue s _ _ (by
    unfold takeReplyStart
    split
    · exact only_refl _ _
    · exact step_link s _)

theorem step_settleDozeEntry : OnlyParts stepParts s (settleDozeEntry s) :=
  only_whenDue s _ _ (by intro p hp; cases p <;> first | rfl | simp [stepParts] at hp)

/-- Before a restart, the steps due change only `stepParts`. -/
theorem step_settleButRestart : OnlyParts stepParts s (settleButRestart s) :=
  only_trans (step_settleLink s) (only_trans (step_settleLocal _)
    (only_trans (step_settleReceiver _) (only_trans (step_settleCalls _)
      (only_trans (step_settleTransmitter _) (only_trans (step_settleDozeEntry _)
        (only_trans (step_settleStore _) (step_settleReplyStart _)))))))

/-- A restart is taken exactly when its OK has been sent. -/
theorem settleRestart_cases :
    settleRestart s = s ∨ (restartDue s = true ∧ settleRestart s = startUp false s) := by
  unfold settleRestart whenDue
  split
  · exact .inr ⟨by assumption, rfl⟩
  · exact .inl rfl

/-- With nothing due, settling leaves the state as it is. -/
theorem settle_of_nothingDue (h : NothingDue s) : settle s = s := by
  unfold settle settleRestart whenDue
  rw [h.1, h.2]; rfl

/-! ## Boundaries -/

/-- All that a boundary of the framing can do: start afresh, or its work. -/
theorem atBoundary_cases (present work : State → State) :
    (restartDue (present (settleButRestart s)) = true ∧
      atBoundary present work s = startUp false (present (settleButRestart s))) ∨
    (restartDue (present (settleButRestart s)) = false ∧
      atBoundary present work s = work (present (settleButRestart s))) := by
  unfold atBoundary
  cases h : restartDue (present (settleButRestart s)) <;> simp [h]

/-- With nothing due and the tick's samples taken, TICK does the tick's work. -/
theorem takeTick_of_nothingDue (h d : Bool) (hn : NothingDue s) (ht : 80 ≤ s.frame.tickPos) :
    takeTick h d s = newTick (finish (tickWork (presentContacts h d s))) := by
  have hr : restartDue (presentContacts h d s) = false := hn.2
  simp [takeTick, whenDue, tickDue, ht, atBoundary, hn.1, hr]

/-- With nothing due and the block's samples taken, BLOCK_END does the block's work. -/
theorem takeBlockEnd_of_nothingDue (l r : Bool) (c : Code) (o : EndOrder) (hn : NothingDue s)
    (hp : 160 ≤ s.frame.pos) :
    takeBlockEnd l r c o s = blockWork o (presentLine l r c s) := by
  have hr : restartDue (presentLine l r c s) = false := hn.2
  simp [takeBlockEnd, whenDue, blockDue, hp, atBoundary, hn.1, hr]

/-- Before its samples are taken, TICK changes nothing. -/
theorem takeTick_early (h d : Bool) (ht : s.frame.tickPos < 80) : takeTick h d s = s := by
  simp [takeTick, whenDue, tickDue, Nat.not_le.mpr ht]

/-- Before its samples are taken, BLOCK_END changes nothing. -/
theorem takeBlockEnd_early (l r : Bool) (c : Code) (o : EndOrder) (hp : s.frame.pos < 160) :
    takeBlockEnd l r c o s = s := by
  simp [takeBlockEnd, whenDue, blockDue, Nat.not_le.mpr hp]

end Sys2Proof.Machine
end

