-- ==== Sys2Proof/Tests/Slice0.lean ====
section
/-! SUPPORT. The tests: the well-formedness check, values that the manual works out, and for every statement with hypotheses a state and operands that meet them, at the boundary of each clause. -/

namespace Sys2Proof.Tests

open Sys2Proof Sys2Proof.Machine

/- One theorem at a time: every kernel evaluation of this file waits for the ones before it. -/
set_option Elab.async false

/-! ## Small states -/

/-- A station with this code, cadence 2, limit 10, both permissions, level 2, sensitivity 2, strict, revert 6. -/
def atStation (code : Code) : State :=
  { State.reset with settings := some ⟨code, 2, 10, 3, 2, 2, false, 6⟩ }

/-- Station 3, just started. -/
def base : State := atStation 3

/-- Station 3 with its handset off-hook at every block that reckons the hook. -/
def lifted : State :=
  { base with
    engine.offHook := true, view.offHook := true, answer.offHook := true, request.offHook := true
    dial.hook := .offHook }

/-- The state in setup mode. -/
def inSetup (s : State) : State := { s with link.setupMode := true }

/-- The state with a call in the slot: in this phase, from station 7, with this timer. -/
def withCall (ph : CallPhase) (k : CallClass) (timer : Nat) (s : State) : State :=
  { s with answer.slot := some ⟨ph, 7, k, 0, 0, timer⟩ }

/-- The state with a request for station 7. -/
def withRequest (st : RequestState) (k : CallClass) (w : RequestWait) (timer : Nat) (s : State) :
    State :=
  { s with request.record := some ⟨st, 7, k, 1, 0, false, false, w, timer⟩ }

/-- An entry of station 3's Request Unit. -/
def entry (k : Kind) (dst : Code) (attempts wait : Nat) (retry : Bool) : Entry :=
  ⟨⟨k, dst, 3, none⟩, .requestUnit, attempts, wait, retry⟩

/-- The state with these lanes. -/
def withLanes (prompt request : List Entry) (s : State) : State :=
  { s with tx.prompt := prompt, tx.request := request }

/-- The state with this view record. -/
def withView (r : ViewRecord) (s : State) : State := { s with view.record := r }

/-- The state at a boundary: the samples of the block and of the tick are taken. -/
def atEnd (s : State) : State := { s with frame := ⟨160, 80⟩ }

/-- The order used where the order does not matter. -/
def anyOrder : EndOrder := ⟨false, false, false, false, false, .viewAnswerRequest⟩

/-- The state after an outcome; the reset state after none. -/
def after (o : Host.Outcome State Fault Refusal) : State :=
  match o with
  | .next t => t
  | .fault _ | .refused _ => State.reset

/-! ## Which commands the ports deliver, and the table's bits -/

theorem test_sample_above_the_converter_is_refused : (Instr.lineSample 2048).wellFormed = false := by
  decide

theorem test_sample_below_the_converter_is_refused :
    (Instr.lineSample (-2049)).wellFormed = false := by decide

theorem test_end_values_of_the_converter_are_delivered :
    (Instr.lineSample 2047).wellFormed = true ∧ (Instr.lineSample (-2048)).wellFormed = true := by
  decide

theorem test_command_byte_is_no_badcmd : (Instr.badcmd 0x10).wellFormed = false := by decide

theorem test_unnamed_byte_is_badcmd : (Instr.badcmd 0x11).wellFormed = true := by decide

theorem test_no_word_spells_a_command :
    decodeTableWord 8 0x10 = none ∧ State.reset.withFetchWord 8 0x10 = State.reset := by
  decide +kernel

/-! ## Values that the manual works out -/

/-- The worked values of R9. -/
theorem test_check_digits :
    [checkDigit .ring 7 3 (some 0), checkDigit .poll 7 3 none, checkDigit .hold 3 7 none,
      checkDigit .answer 3 7 none, checkDigit .refuse 3 7 (some 0), checkDigit .clear 7 3 none,
      checkDigit .refuse 9 4 (some 4), checkDigit .ring 6 15 (some 1), checkDigit .brk 11 2 none,
      checkDigit .brk 0 2 none] = [10, 11, 12, 13, 14, 15, 5, 6, 3, 8] := by decide

/-- Section 2.11, cases 1 to 4: a digit, a third tone, speech, a tie. -/
theorem test_worked_decisions :
    blockDecision false 0 195312 6000 ⟨15, 97656, 1020, 610, 88, 95870, 240, 31⟩ = .pair ⟨1, 5⟩ ∧
    blockDecision false 0 195312 6000 ⟨15, 97656, 1020, 30000, 88, 95870, 240, 31⟩ = .overlap ∧
    blockDecision false 0 195312 6000 ⟨15, 97656, 1020, 20000, 88, 95870, 240, 31⟩ = .noise ∧
    blockDecision false 0 40000 6000 ⟨310, 520, 9800, 8200, 940, 610, 280, 150⟩ = .noise ∧
    blockDecision false 0 100000 6000 ⟨4000, 90, 120, 40000, 60, 200, 40000, 4000⟩ = .pair ⟨3, 6⟩ := by
  decide +kernel

/-- Section 2.11, case 6: a clipped block, strict and lenient. -/
theorem test_worked_clipped_block :
    blockDecision false 6 52000 6000 ⟨0, 0, 26400, 0, 0, 0, 24900, 0⟩ = .unusable ∧
    blockDecision true 6 52000 6000 ⟨0, 0, 26400, 0, 0, 0, 24900, 0⟩ = .pair ⟨2, 6⟩ := by
  decide +kernel

/-- Section 2.11, cases 2, 3 and 5: the floor after a block, with both clamps. -/
theorem test_worked_floors :
    [floorAfter 64 200 .silent, floorAfter 72 210 .silent, floorAfter 80 90 .silent,
      floorAfter 80 30 .silent, floorAfter 17 0 .silent, floorAfter 1200 3000 .silent,
      floorAfter 1200 500 .silent, floorAfter 1200 195312 .noise, floorAfter 1200 40000 .noise,
      floorAfter 65530 800000 .noise, floorAfter 1200 52000 (.pair ⟨2, 6⟩)] =
      [72, 80, 80, 76, 16, 1312, 1156, 1958, 1351, 65535, 1200] := by decide +kernel

/-- Section 2.4 and the table of R22: Q and T. -/
theorem test_worked_totals_and_thresholds :
    totalEnergy 160000000 = 195312 ∧
    [0, 1, 2, 3, 4, 5, 6, 7].map (threshold 1200) =
      [7200, 6600, 6000, 5400, 4800, 4200, 3600, 3000] := by decide +kernel

/-- Section 2.11, case 7: waking on a preamble, and not on a quiet block or on speech. -/
theorem test_worked_attention_tests :
    attentionTest false 0 52000 6000 26400 24900 = true ∧
    attentionTest false 0 950 6000 0 0 = false ∧
    attentionTest false 0 40000 6000 9800 280 = false := by decide +kernel

/-- Section 4.3, the line sample worked, and the largest samples of the table of R54. -/
theorem test_worked_line_samples :
    let sample (p q : Nat) : Int :=
      (after (exec (.lineSample 0)
        { base with engine.v0 := ⟨true, p, 7782, 12⟩, engine.v1 := ⟨true, q, 16384, 12⟩ })).out.lineOut
    [sample 0 0, sample 7782 16384, sample 15564 32768, sample 23346 49152] = [0, 1283, 764, -162] ∧
    [8, 10, 12, 15].map (fun l => roundHalfAway (2 * 2047 * l) 32) = [1024, 1279, 1535, 1919] := by
  decide +kernel

/-- R58, R61: a STARTed script sounds from the next tick, at the pitch of R55. -/
theorem test_tick_begins_a_script :
    let t := after (exec (.tick true true) (atEnd
      { lifted with engine.ear.play := true, engine.ear.script := some .busy, engine.ear.level := 10 }))
    t.engine.ear.step = 3932 ∧ t.engine.ear.remaining = 50 ∧ t.engine.ear.begun = true := by
  decide +kernel

/-- R158, the examples below its table: cell 2 as 0x02 and as 0x30, cell 7 as 0x00. -/
theorem test_worked_cells :
    (Page.settings ⟨9, 5, 0x02, 0xFF, 0xFF, 0xFF, 0xFF, 0x00, 0xA5⟩).map (fun v => (v.limit, v.revert)) =
      some (4, 2) ∧
    (Page.settings ⟨9, 5, 0x30, 0xFF, 0xFF, 0xFF, 0xFF, 0xFF, 0xA5⟩).map (·.limit) = some 15 := by
  decide +kernel

/-- Section 10.6: the settings of station 9 after its installation. -/
theorem test_worked_installation :
    Page.settings ⟨9, 5, 0xFF, 1, 0xFF, 0xFF, 0xFF, 0xFF, 0xA5⟩ = some ⟨9, 5, 10, 1, 2, 2, false, 6⟩ := by
  decide +kernel

/-- Section 10.6: CLOSED at 13 s, USED at 16 s, BADVAL at 18 s. -/
theorem test_worked_write_statuses :
    let with8 (c1 c8 : Byte) : State :=
      inSetup { base with store.page := ⟨9, c1, 0xFF, 0, 0xFF, 0xFF, 0xFF, 0xFF, c8⟩ }
    let answer (n v : Byte) (s : State) := (after (exec (.write n v) s)).link.replies
    answer 0 9 (with8 2 0xA5) = [[0x04]] ∧ answer 1 6 (with8 5 0xFF) = [[0x03]] ∧
    answer 8 0x5A (with8 5 0xFF) = [[0x06]] ∧ answer 8 0xA5 (with8 5 0xFF) = [[0x00]] := by
  decide +kernel

/-- R159: an erase that runs out leaves the page erased, and the settings in force as they were; before that the store is busy and ERASE_COMPLETE does nothing. -/
theorem test_erase_keeps_the_settings_in_force :
    let t := after (exec .erase (inSetup { base with store.page := ⟨4, 2, 0, 0, 0, 0, 0, 0, 0xA5⟩ }))
    let u := after (exec .eraseComplete { t with store.op := .erasing 0 })
    t.link.replies = [[0x00]] ∧ t.store.page.c8 = 0xFF ∧ u.store.page = .erased ∧
      u.settings = base.settings ∧ after (exec .eraseComplete t) = t := by decide +kernel

/-- R75, R84: quiet is held at 0 at the decision of the block in which setup entry stopped an attempt, and rises at the next. -/
theorem test_quiet_after_a_stopped_attempt :
    let t := after (exec .enterSetup
      { withLanes [] [⟨⟨.poll, 7, 3, none⟩, .requestUnit, 1, 0, false⟩] base with
        tx.attempt := some ⟨.request, 3, true⟩ })
    let ended (u : State) := after (exec (.blockEnd false false 0 anyOrder) (atEnd u))
    t.link.setupMode = true ∧ (ended t).tx.quiet = 0 ∧ (ended (ended t)).tx.quiet = 1 := by
  decide +kernel

/-- R163: the bits of the condition byte. -/
theorem test_condition_byte :
    (Conditions.mk true false true false true false true).byte = 0x55 := by decide

/-- R165: a restart takes the new settings and keeps the power-on count. -/
theorem test_restart_reads_the_page :
    let t := after (exec .restartAfterReply (inSetup { base with
      store.page := ⟨9, 5, 0xFF, 1, 0xFF, 0xFF, 0xFF, 0xFF, 0xA5⟩
      link.powerOn := 2000, link.awaitRestart := true }))
    t.settings.map (·.code) = some 9 ∧ t.link.powerOn = 2000 ∧ t.link.setupMode = false := by
  decide +kernel

/-- Section 8.13, missed polls: the third miss is FAILED, LOST, with CLEAR queued. -/
theorem test_worked_third_miss :
    let t := after (exec .pollReplyExpiry
      { base with request.record := some ⟨.waiting, 12, .ordinary, 1, 2, false, false, .reply, 0⟩ })
    t.request.record.map (·.state) = some (.failed .lost) ∧
      t.tx.prompt.map (·.word) = [⟨.clear, 12, 3, none⟩] := by decide +kernel

/-- Section 8.13, a reverting call: an ANSWER to a caller who has hung up. -/
theorem test_worked_revert :
    let t := ruWord ⟨.answer, 3, 7, none⟩ (withRequest .waiting .ordinary .reply 100 base)
    t.request.record.map (fun r => (r.state, r.timer)) = some (.reverting, 1500) ∧
      t.engine.bell.script = some .revert := by decide +kernel

/-- R92, R93: section 6.10's break-in at a bystander: BREAK 11 2, then the target's CLEAR. -/
theorem test_worked_break_in :
    let t := viewWord false ⟨.brk, 11, 2, none⟩ (withView (.held 5 11 .ordinary) (atStation 8))
    t.view.record = .broken 2 11 (some (5, 11)) ∧
      (viewWord false ⟨.clear, 5, 11, none⟩ t).view.record = .free := by decide +kernel

/-- R150: an exchange call to a farm, and one with a code that names none. -/
theorem test_exchange_rise :
    let rise (code : Code) := after (exec (.blockEnd false true code anyOrder) (atEnd (atStation 15)))
    (rise 4).trunk = ⟨0, some 4, .deferred, true⟩ ∧ (rise 0).trunk.incoming = .rejected ∧
      (rise 0).conds.badTrunkCode = true := by decide +kernel

/-- R166: the hundredth block in which the conditions hold makes DOZE_ENTRY due. -/
theorem test_doze_count :
    let s : State := { base with dial.hook := .onHook, dial.period := 80, doze.count := 99 }
    let t := after (exec (.blockEnd false false 0 anyOrder) (atEnd s))
    t.doze = ⟨false, 100⟩ ∧ (after (exec .dozeEntry t)).doze.dozing = true := by decide +kernel

/-- R168: the lamp of a station in UNSET: 12 ticks on, 13 off. -/
theorem test_lamp_in_unset :
    let lit (phase : Nat) :=
      (after (exec (.tick false true)
        (atEnd { State.reset with lamp := ⟨.fastFlash, phase, false⟩ }))).lamp.lit
    [10, 11, 23, 24].map lit = [true, false, false, true] := by decide +kernel

/-- R14, R161: a block end that finds a restart due decides nothing: F, the idle count and quiet are those of the reset. -/
theorem test_restart_discards_the_block :
    let t := after (exec (.blockEnd false false 0 anyOrder)
      (atEnd (inSetup { base with det.floor := 200, link.awaitRestart := true })))
    t.frame = ⟨0, 0⟩ ∧ t.det.floor = 64 ∧ t.view.idle = 0 ∧ t.tx.quiet = 0 ∧
      t.link.setupMode = false := by decide +kernel

/-- R127: a HANG-UP ends BARRED. -/
theorem test_hang_up_ends_barred :
    (after (exec (.hangUp .viewAnswerRequest)
      { base with dial.hook := .onHook, dial.hangUpDue := true, dial.state := .barred })).dial.state =
        .idle := by decide +kernel

/-- R149, section 9.6: a call that has lapsed is not offered. -/
theorem test_lapsed_call_is_not_offered :
    let s : State := { atStation 15 with trunk := ⟨300, some 4, .deferred, true⟩ }
    after (exec .originate s) = s ∧ (after (exec .trunkLapse s)).trunk.incoming = .idle := by
  decide +kernel

/-- R163: a reply that is being sent is not cut short. -/
theorem test_reply_waits_for_the_one_before :
    let s : State := { base with link.sending := some ⟨[0x00], 40⟩, link.replies := [[0x01]] }
    after (exec .setupReplyStart s) = s := by decide +kernel

/-! ## States and operands that meet the hypotheses of the statements, clause by clause -/

theorem test_meets_StepTakesTheFrontCommand : base.pending = [] := rfl

theorem test_meets_EveryCommandCompletesAndKeepsTheQueue : base.inbox = [] := rfl

theorem test_meets_StartsAfreshAtAResetOrARestart :
    (base.store.op = .idle ∧ base.store.page.settings.map (·.code) ≠ some 15) ∧
    (let s : State :=
      { base with
        store.page := ⟨15, 0, 10, 0, 2, 2, 0, 6, 0xA5⟩, link.awaitRestart := true }
    s.store.page.settings.map (·.code) = some 15 ∧ s.powered = true ∧ s.link.awaitRestart = true ∧
      s.link.sending = none ∧ s.link.replies = [] ∧ s.store.op = .idle) ∧
    (base.powered = true ∧ base.link.awaitRestart = false) ∧
    (let s : State :=
      { base with link.awaitRestart := true, link.sending := some ⟨[0x00], 1⟩, link.replies := [[0x00]] }
    s.powered = true ∧ s.link.sending ≠ none ∧ s.link.replies ≠ []) := by decide +kernel

/-- Codes 1 and 15 are valid, 0 and 16 are not; each setting below, in and above its range. -/
theorem test_meets_SettingsComeFromThePageTable :
    Page.settings ⟨1, 0, 3, 4, 4, 8, 2, 1, 0xA5⟩ = some ⟨1, 0, 4, 0, 3, 7, false, 2⟩ ∧
    Page.settings ⟨15, 8, 16, 3, 0, 7, 1, 13, 0xA5⟩ = some ⟨15, 7, 15, 3, 0, 7, true, 12⟩ ∧
    Page.settings ⟨2, 0xFF, 0xFF, 0xFF, 0xFF, 0xFF, 0xFF, 0xFF, 0xA5⟩ =
      some ⟨2, 0, 10, 0, 2, 2, false, 6⟩ ∧
    Page.settings ⟨0, 0, 4, 0, 0, 0, 0, 2, 0xA5⟩ = none ∧
    Page.settings ⟨16, 0, 4, 0, 0, 0, 0, 2, 0xA5⟩ = none ∧
    Page.settings ⟨1, 0, 4, 0, 0, 0, 0, 2, 0xA4⟩ = none := by decide +kernel

theorem test_meets_SettingsStayInForceUntilAStart :
    (Instr.restart ≠ .powerOnReset ∧ Instr.restart ≠ .powerFail ∧ base.link.awaitRestart = false) ∧
    ∃ t, exec .restart base = .next t := ⟨by decide, _, rfl⟩

/-- The state with the store at work. -/
def storeAt (op : StoreOp) : State := { base with store := ⟨⟨4, 2, 9, 1, 2, 2, 0, 6, 0xA5⟩, op⟩ }

theorem test_meets_EraseAndWriteEndOrAreCutShort :
    (base.powered = true ∧ base.store.op = .idle) ∧
    ((storeAt (.erasing 0)).powered = true ∧ (storeAt (.erasing 0)).store.op = .erasing 0) ∧
    ((storeAt (.writing 0 9 0)).powered = true ∧
      (storeAt (.writing 0 9 0)).store.op = .writing 0 9 0) ∧
    (8 ≤ 8 ∧ (storeAt (.writing 8 0xA5 0)).powered = true ∧
      (storeAt (.writing 8 0xA5 0)).store.op = .writing 8 0xA5 0) ∧
    ((storeAt (.erasing 1)).store.op ≠ .erasing 0 ∧
      ∀ n v, (storeAt (.writing 8 0xA5 1)).store.op ≠ .writing n v 0) := by
  refine ⟨by decide, by decide, by decide, by decide, by decide, ?_⟩
  intro n v h
  simp [storeAt] at h

/-- Every condition set, and a READ byte waiting for its argument. -/
theorem test_meets_ConditionsAreSticky :
    let s : State :=
      { base with
        conds := ⟨true, true, true, true, true, true, true⟩, link.partialCmd := [0x10]
        link.gap := 10, frame := ⟨160, 80⟩ }
    (Instr.tick true true ≠ .powerOnReset ∧ Instr.tick true true ≠ .powerFail ∧
      Instr.tick true true ≠ .clearConditions ∧ s.link.partialCmd ≠ [0x41]) ∧
    ∃ t, exec (.tick true true) s = .next t := ⟨by decide, _, rfl⟩

/-- Every count at its upper bound, full lanes, and an attempt of a word on its fifth try. -/
def atBounds : State :=
  { withLanes (List.replicate 4 (entry .hold 7 4 100 false))
      [entry .poll 8 5 250 false, entry .poll 7 4 0 false] base with
    pending := [.tick true true], frame := ⟨160, 80⟩
    det.floor := 65535
    engine := ⟨⟨true, 65535, 65535, 15⟩, ⟨true, 65535, 65535, 15⟩,
      ⟨true, 65535, 65535, 15, some .busy, 15, 255, 15, false, some .requestUnit, true⟩,
      ⟨true, 65535, 65535, 15, some .trunk, 15, 255, 15, false, some .answerUnit, true⟩, false⟩
    tx.attempt := some ⟨.request, 3, true⟩, tx.quiet := 3, tx.backOff := 76
    view.idle := 50
    answer.slot := some ⟨.expired, 7, .urgent, 10, 3, 500⟩
    request.record := some ⟨.reverting, 8, .urgent, 3, 3, true, true, .revert, 3000⟩
    dial := ⟨.onHook, some false, 3, 80, false, .counting, 10, 11, 30, [1, 1, 1], some 300⟩
    link.powerOn := 6000, link.gap := 10, doze.count := 100 }

/-- The bounds are met, and a ringing call stands one cycle below its limit. -/
theorem test_meets_EveryStepKeepsCountsInRange :
    (CountsInRange atBounds ∧ LanesInDepth atBounds) ∧
    (let s : State := { base with answer.slot := some ⟨.ringing .earpiece, 7, .urgent, 9, 3, 500⟩ }
    CountsInRange s ∧ LanesInDepth s) ∧
    ∃ t, step atBounds = .next t := by
  refine ⟨⟨⟨?_, ?_, ?_, ?_, ?_, ?_, ?_, ?_, ?_, ?_, ?_, ?_⟩, ?_⟩, ⟨⟨?_, ?_, ?_, ?_, ?_, ?_, ?_, ?_, ?_, ?_, ?_, ?_⟩, ?_⟩, _, rfl⟩ <;>
    decide +kernel

/-- The state off-hook while stations 5 and 11 talk: PRIVACY is asserted. -/
def barredOff : State :=
  { withView (.held 5 11 .ordinary) lifted with out.privacy := true, frame := ⟨160, 80⟩, pending := [.tick true true] }

/-- The trunk-end station in a call: TRUNK_CONNECT is closed. -/
def connected : State :=
  { withView (.held 5 15 .ordinary) (atStation 15) with
    out.trunkConnect := true, pending := [.lineIdle] }

theorem test_meets_EveryStepKeepsOutputsFollowingTheView :
    (OutputsFollowView barredOff ∧ ∃ t, step barredOff = .next t) ∧
    (OutputsFollowView connected ∧ ∃ t, step connected = .next t) := by
  refine ⟨⟨⟨by decide +kernel, ?_⟩, _, rfl⟩, ⟨⟨by decide +kernel, ?_⟩, _, rfl⟩⟩
  · exact ⟨fun h => absurd h (by decide), fun h => absurd h.1 (by decide)⟩
  · exact ⟨fun _ => ⟨by decide, by decide, 5, 15, .ordinary, rfl⟩, fun _ => rfl⟩

theorem test_meets_EveryStepKeepsOfflineEmpty :
    (let s : State := { State.reset with pending := [.enterSetup] }
    (s.settings = none ∧ OfflineIsEmpty s) ∧ ∃ t, step s = .next t) ∧
    (let s : State := { inSetup base with pending := [.setupByte 0x10 true] }
    (s.link.setupMode = true ∧ OfflineIsEmpty s) ∧ ∃ t, step s = .next t) :=
  ⟨⟨by decide +kernel, _, rfl⟩, ⟨by decide +kernel, _, rfl⟩⟩

/-- One sample before the block and the tick end, at full rate and in doze blocks 0 and 1. -/
theorem test_meets_SampleEntersTheBlock :
    (let s : State := { base with frame := ⟨159, 79⟩ }
    s.powered = true ∧ NothingDue s ∧ s.frame.pos < 160 ∧ s.frame.tickPos < 80 ∧ s.det.mode = .full) ∧
    (let s : State := { base with frame := ⟨0, 79⟩, doze := ⟨true, 100⟩, det.mode := .doze 0 }
    s.powered = true ∧ NothingDue s ∧ s.frame.pos < 160 ∧ s.frame.tickPos < 80 ∧
      s.det.mode = .doze 0) ∧
    (let s : State := { base with frame := ⟨159, 0⟩, doze := ⟨true, 100⟩, det.mode := .doze 1 }
    s.powered = true ∧ NothingDue s ∧ s.frame.pos < 160 ∧ s.frame.tickPos < 80 ∧
      s.det.mode = .doze 1 ∧ 1 % 4 ≠ 0) := by decide +kernel

theorem test_meets_SampleProducesTheOutputs :
    let s : State :=
      { lifted with
        frame := ⟨159, 79⟩, engine.v0 := ⟨true, 7782, 7782, 12⟩
        engine.ear := ⟨true, 3932, 3932, 10, some .busy, 0, 50, 1, false, some .requestUnit, true⟩ }
    s.powered = true ∧ NothingDue s ∧ s.frame.pos < 160 ∧ s.frame.tickPos < 80 := by decide +kernel

theorem test_meets_OutputsStayInTheirRanges :
    let e : Engine :=
      { Engine.reset with
        v0 := ⟨true, 16384, 7782, 15⟩, v1 := ⟨true, 16384, 16384, 15⟩, ear.level := 10 }
    0 < 1 ∧ e.v0.level ≤ 15 ∧ e.v1.level ≤ 15 ∧ e.ear.level = 10 := by decide

/-- The strong tones of a block (R26). -/
def strong (q : Nat) (e : Bank Nat) : Nat :=
  (List.finRange 8).countP (fun k => decide (q / 8 ≤ e.ofTone k))

/-- Section 2.11, case 1. -/
def digitBank : Bank Nat := ⟨15, 97656, 1020, 610, 88, 95870, 240, 31⟩

/-- Section 2.11, case 2, the third tone just strong. -/
def thirdBank : Bank Nat := ⟨15, 97656, 1020, 24414, 88, 95870, 240, 31⟩

/-- Section 2.11, case 3. -/
def speechBank : Bank Nat := ⟨310, 520, 9800, 8200, 940, 610, 280, 150⟩

/-- Clipped at 4; silent just below T; three strong tones, one of them just strong; a pair; a block at T that purity alone bars. -/
theorem test_meets_BlockDecisionFollowsTheTests :
    (TopThree digitBank 1 5 2 ∧ 4 ≤ 4 ∧ ¬4 ≤ 3 ∧ 195312 < 195313) ∧
    (TopThree thirdBank 1 5 3 ∧ 6000 ≤ 195312 ∧ 3 ≤ strong 195312 thirdBank) ∧
    (6000 ≤ 195312 ∧ strong 195312 digitBank < 3 ∧ 1 ≤ digitBank.ofTone 5 ∧
      digitBank.ofTone 1 ≤ 4 * digitBank.ofTone 5 ∧ 8 * digitBank.ofTone 2 ≤ digitBank.ofTone 5 ∧
      3 * 195312 ≤ 4 * (digitBank.ofTone 1 + digitBank.ofTone 5)) ∧
    (TopThree speechBank 2 3 4 ∧ 40000 ≤ 40000 ∧ strong 40000 speechBank < 3 ∧
      ¬3 * 40000 ≤ 4 * (speechBank.ofTone 2 + speechBank.ofTone 3)) := by
  refine ⟨?_, ?_, ?_, ?_⟩ <;> decide +kernel

/-- A block whose every decision the floor can meet: silent, noise (the sums without any band), unusable. The doze conditions hold and fail; the block is one sample short; a restart is due. -/
theorem test_meets_BlockEndMovesTheFloor :
    let s (sumSq clips floor : Nat) : State :=
      { base with
        frame := ⟨160, 79⟩, det.sumSq := sumSq, det.clips := clips, det.floor := floor }
    ((s 0 3 16).powered = true ∧ NothingDue (s 0 3 16) ∧ 160 ≤ (s 0 3 16).frame.pos ∧
      (s 0 3 16).det.mode = .full ∧ decisionOf (s 0 3 16) = .silent ∧ (s 0 3 16).rx.word = none ∧
      (s 0 3 16).doze.dozing = false) ∧
    (NothingDue (s 671088640 0 65535) ∧ decisionOf (s 671088640 0 65535) = .noise) ∧
    (NothingDue (s 0 4 64) ∧ decisionOf (s 0 4 64) = .unusable) ∧
    (let idle : State := { s 0 3 16 with dial.hook := .onHook, dial.period := 80 }
    NothingDue idle ∧ dozeConditions (after (exec (.blockEnd false false 0 anyOrder) idle)) = true ∧
      dozeConditions (after (exec (.blockEnd false false 0 anyOrder) (s 0 3 16))) = false) ∧
    ({ base with frame := ⟨159, 79⟩ } : State).frame.pos < 160 ∧
    (let due : State := { s 0 3 16 with link.awaitRestart := true }
    due.powered = true ∧ 160 ≤ due.frame.pos ∧ settleButRestart due = due ∧ restartDue due = true) := by
  refine ⟨?_, ?_, ?_, ?_, ?_, ?_⟩ <;> decide +kernel

/-- Station 3 in doze, in the doze block with this number, which holds an attention preamble when `heard`. -/
def dozing (number : Nat) (heard : Bool) : State :=
  { base with
    doze := ⟨true, 100⟩, frame := ⟨160, 79⟩, det.mode := .doze number
    det.sumSq := if heard then 8192000 else 0
    det.filters.t2 := ⟨if heard then 30000 else 0, 0⟩
    det.filters.t6 := ⟨if heard then 30000 else 0, 0⟩ }

theorem test_meets_DozeIsEnteredTestedAndLeft :
    (let s := dozing 0 true
    s.powered = true ∧ NothingDue s ∧ 160 ≤ s.frame.pos ∧ isTrunkEnd s = false ∧
      s.doze.dozing = true ∧ s.det.mode = .doze 0 ∧ attentionPassed s = true) ∧
    (let s := dozing 0 false
    NothingDue s ∧ s.doze.dozing = true ∧ s.det.mode = .doze 0 ∧ attentionPassed s = false) ∧
    (let s := dozing 3 true
    NothingDue s ∧ s.doze.dozing = true ∧ s.det.mode = .doze 3 ∧ 3 % 4 ≠ 0) ∧
    (let s : State := { dozing 1 false with settings := (atStation 15).settings }
    NothingDue s ∧ s.doze.dozing = true ∧ isTrunkEnd s = true ∧ s.link.setupMode = false ∧
      300 ≤ s.trunk.silence) ∧
    (let s : State := { dozing 2 false with doze := ⟨false, 0⟩ }
    NothingDue s ∧ s.doze.dozing = false ∧ s.det.mode = .doze 2) ∧
    (let s (n : Nat) : State := { base with doze := ⟨false, n⟩ }
    (s 100).powered = true ∧ (s 100).doze = ⟨false, 100⟩ ∧ (s 99).doze.dozing = false ∧
      (s 99).doze.count < 100) := by
  refine ⟨?_, ?_, ?_, ?_, ?_, ?_⟩ <;> decide +kernel

theorem test_meets_PairIndexIsItsPosition :
    ((0 : Tone) < 1 ∧ (6 : Tone) < 7) ∧ 0 < 28 ∧ 27 < 28 := by decide

theorem test_meets_WordIsValidByTheFiveTests :
    (LineWord.mk .ring 7 3 (some 2)).arg.isSome = Kind.ring.hasArgument ∧
    (LineWord.mk .refuse 7 3 (some 4)).arg.isSome = Kind.refuse.hasArgument ∧
    (LineWord.mk .brk 0 15 none).arg.isSome = Kind.brk.hasArgument := by decide

/-- A receiver that has just opened a word, with a valid RING and an invalid POLL (to code 0). -/
theorem test_meets_SentSymbolsCompleteTheWordSent :
    let s : State := { base with rx.word := some (openedWord true) }
    s.rx.word = some (openedWord true) ∧
    ((LineWord.mk .ring 7 3 (some 0)).arg.isSome = Kind.ring.hasArgument ∧
      wordValid ⟨.ring, 7, 3, some 0⟩ (checkDigit .ring 7 3 (some 0)) = true) ∧
    ((LineWord.mk .poll 0 3 none).arg.isSome = Kind.poll.hasArgument ∧
      wordValid ⟨.poll, 0, 3, none⟩ (checkDigit .poll 0 3 none) = false) := by decide +kernel

/-- The symbol record in each stage, ATTN's among them; ATTN one block below its limit, a symbol that is not void, and a void one; with a word in assembly and with one in its opening. -/
theorem test_meets_SymbolStageFollowsItsTable :
    let s (r : SymbolRecord) (p : Place) : State :=
      { base with rx := ⟨r, some ⟨p, some .ring, none, none, none, 5, true⟩, 2⟩ }
    (s .idle .opening).rx.symbol = .idle ∧
    ((s (.candidate ⟨1, 5⟩ true) .kind).rx.symbol = .candidate ⟨1, 5⟩ true ∧
      (⟨1, 5⟩ : Pair) ≠ ⟨2, 6⟩ ∧ (⟨2, 6⟩ : Pair) ≠ ⟨1, 5⟩) ∧
    (s (.candidate ⟨2, 6⟩ false) .toCode).rx.symbol = .candidate ⟨2, 6⟩ false ∧
    (s (.held ⟨2, 6⟩ 50 true false) .opening).rx.symbol = .held ⟨2, 6⟩ 50 true false ∧
    (s (.held ⟨1, 5⟩ 7 false true) .check).rx.symbol = .held ⟨1, 5⟩ 7 false true ∧
    (Decision.silent = .silent ∨ Decision.silent = .noise) ∧
    (Decision.noise = .silent ∨ Decision.noise = .noise) := by decide +kernel

theorem test_meets_ReceiverLimitsAct :
    let s (r : SymbolRecord) (gap : Nat) : State :=
      { base with rx := ⟨r, some ⟨.toCode, some .ring, none, none, none, gap, false⟩, 3⟩ }
    ((s .idle 6).powered = true ∧ 3 ≤ (s .idle 6).rx.unusable) ∧
    ((⟨1, 5⟩ : Pair) ≠ ⟨2, 6⟩ ∧ 7 ≤ 7 ∧
      (s (.held ⟨1, 5⟩ 7 false false) 0).rx.symbol = .held ⟨1, 5⟩ 7 false false) ∧
    (51 ≤ 51 ∧ (s (.held ⟨2, 6⟩ 51 false false) 0).rx.symbol = .held ⟨2, 6⟩ 51 false false) ∧
    ((s .idle 6).rx.word = some ⟨.toCode, some .ring, none, none, none, 6, false⟩ ∧ 6 ≤ 6) := by
  decide +kernel

/-- Every place, with the first and the last index of each range. -/
theorem test_meets_EmittedSymbolIsPlaced :
    let r (p : Place) : WordRecord := ⟨p, some .refuse, some 7, some 3, none, 5, false⟩
    let s (p : Place) : State := { base with rx.word := some (r p) }
    base.rx.word = none ∧
    ((s .kind).rx.word = some (r .kind) ∧ (r .kind).place = .kind ∧ 18 = 18 + Kind.ring.ordinal ∧
      24 = 18 + Kind.brk.ordinal ∧ (17 < 18 ∨ 24 < 17) ∧ (25 < 18 ∨ 24 < 25)) ∧
    ((s .toCode).rx.word = some (r .toCode) ∧ (r .toCode).place = .toCode ∧ 0 = (0 : Code).val ∧
      15 = (15 : Code).val ∧ (r .toCode).place ≠ .opening ∧ (r .toCode).place ≠ .kind ∧ 15 < 16) ∧
    ((s .fromCode).rx.word = some (r .fromCode) ∧ (r .fromCode).place = .fromCode ∧
      (r .fromCode).kind = some .refuse) ∧
    ((s .argument).rx.word = some (r .argument) ∧ (r .argument).place = .argument) := by
  decide +kernel

theorem test_meets_ValidWordIsDelivered :
    inService State.reset = false ∧
    (inService base = true ∧ ownCode base ≠ some 7) ∧
    (inService base = true ∧ ownCode base = some 3) ∧
    (let r : WordRecord := ⟨.check, some .poll, some 3, some 7, none, 0, false⟩
    r.word = some ⟨.poll, 3, 7, none⟩ ∧ wordValid ⟨.poll, 3, 7, none⟩ 12 = false) := by
  decide +kernel

/-- A HOLD into free, matching and full lanes; a CLEAR placed and dropped, with a POLL to remove. -/
theorem test_meets_QueuePlacesTheWord :
    let full : State :=
      withLanes [entry .hold 5 0 0 false, entry .hold 6 0 0 false, entry .hold 8 0 0 false,
        entry .hold 9 0 0 false] [entry .poll 7 0 0 false, entry .poll 8 0 0 false] base
    (Kind.hold ≠ .clear ∧ State.reset.settings = none) ∧
    (ownCode base = some 3 ∧ base.link.setupMode = false) ∧
    (full.tx.queued .prompt =
        [entry .hold 5 0 0 false, entry .hold 6 0 0 false, entry .hold 8 0 0 false] ++
          entry .hold 9 0 0 false :: [] ∧
      ∀ x ∈ [entry .hold 5 0 0 false, entry .hold 6 0 0 false, entry .hold 8 0 0 false],
        x.word.dst ≠ 9) ∧
    ((∀ x ∈ base.tx.queued .prompt, x.word.dst ≠ 7) ∧ (base.tx.entries .prompt).length < 4) ∧
    (ownCode full = some 3 ∧ (∀ x ∈ full.tx.queued .prompt, x.word.dst ≠ 7) ∧
      4 ≤ (full.tx.entries .prompt).length ∧ 2 ≤ (full.tx.entries .request).length) ∧
    ((∃ x ∈ full.tx.queued .prompt, x.word.dst = 9) ∧ base.tx.prompt.length < 4) ∧
    ((entry .hold 9 0 0 false).owner ≠ .lineView ∧ (entry .hold 9 0 0 false).word.dst = 9 ∧
      (∀ x ∈ base.tx.queued .prompt, x.word.dst ≠ 9)) := by
  decide +kernel

/-- The owner's own word at the head with another behind it, and another owner's word at the head. -/
theorem test_meets_WithdrawRemovesTheOwnersWords :
    let s := withLanes [entry .answer 7 0 100 false, entry .hold 8 0 0 false] [] base
    (s.tx.queued .prompt = entry .answer 7 0 100 false :: [entry .hold 8 0 0 false] ∧
      (entry .answer 7 0 100 false).owner = .requestUnit ∧
      (entry .answer 7 0 100 false).word.dst = 7) ∧
    ¬((entry .answer 7 0 100 false).owner = .lineView ∧
      (entry .answer 7 0 100 false).word.dst = 7) := by decide +kernel

theorem test_meets_AttemptStartsWithAttn :
    let e := entry .hold 7 0 100 false
    let r := entry .poll 7 4 0 true
    let s : State := { withLanes [e] [r] base with tx.startDue := true }
    let t : State := { withLanes [{ e with retry := true }] [] base with tx.startDue := true }
    (s.powered = true ∧ inService s = true ∧ s.tx.attempt = none ∧ s.tx.startDue = true) ∧
    (s.tx.entries .request = r :: [] ∧ r.retry = true ∧ headMarked s.tx.prompt = false) ∧
    (t.tx.entries .prompt = { e with retry := true } :: [] ∧ t.tx.startDue = true) ∧
    (s.tx.entries .prompt = e :: [] ∧ 100 ≤ e.wait) := by decide +kernel

theorem test_meets_WaitingEndsOrGoesOn :
    let e := entry .poll 7 0 250 false
    let s (quiet : Nat) : State :=
      { withLanes [] [e] base with tx.quiet := quiet, tx.backOffDue := true }
    ((s 0).powered = true ∧ (s 0).tx.request = e :: [] ∧ 250 ≤ e.wait ∧
      (s 0).tx.inFlight .request = false ∧ (s 0).tx.backOffDue = true) ∧
    (¬((s 3).tx.prompt = [] ∧ (s 3).tx.request = []) ∧ (s 3).tx.quiet = 3) ∧ (s 2).tx.quiet ≠ 3 ∧
    (let t : State := { base with tx.backOffDue := true }
    t.tx.backOffDue = true ∧ t.tx.prompt = [] ∧ t.tx.request = []) ∧
    ((s 2).tx.attempt = none ∧ (s 2).tx.backOff = 0 ∧ min 3 ((s 2).tx.quiet + 1) = 3 ∧
      Decision.noise ≠ .silent ∧ (s 2).tx.cutBlock = false) ∧
    (let t : State := { s 2 with tx.cutBlock := true }
    t.tx.attempt = none ∧ t.tx.cutBlock = true) ∧
    (let t : State := { s 2 with tx.backOff := 1 }
    t.tx.attempt = none ∧ t.tx.backOff ≠ 0) := by decide +kernel

theorem test_meets_QuietCountFollowsTheDecisions :
    let s : State := { base with tx.attempt := some ⟨.prompt, 0, true⟩ }
    base.tx.attempt = none ∧ base.tx.cutBlock = false ∧ Decision.noise ≠ .silent ∧
      s.tx.attempt ≠ none := by decide

theorem test_meets_EchoCheckFollowsItsTable :
    (LineWord.mk .ring 7 3 (some 0)).arg.isSome = Kind.ring.hasArgument ∧
    0 < (LineWord.mk .ring 7 3 (some 0)).span ∧ 34 < (LineWord.mk .ring 7 3 (some 0)).span ∧
    (LineWord.mk .poll 7 3 none).arg.isSome = Kind.poll.hasArgument ∧
    29 < (LineWord.mk .poll 7 3 none).span := by decide

/-- Station 3 sending POLL 7 at this position of its span. -/
def sending (pos attempts : Nat) : State :=
  { withLanes [] [entry .poll 7 attempts 0 false, entry .ring 8 0 0 false] base with
    tx.attempt := some ⟨.request, pos, true⟩ }

/-- Positions before a gap, a hold and neither, and the last of the span. -/
theorem test_meets_AttemptGoesOnAndWordIsSent :
    let w : LineWord := ⟨.poll, 7, 3, none⟩
    ((sending 7 1).tx.attempt = some ⟨.request, 7, true⟩ ∧
      (sending 7 1).tx.entries .request = entry .poll 7 1 0 false :: [entry .ring 8 0 0 false] ∧
      inService (sending 7 1) = true) ∧
    (echoPasses w 7 (.pair ⟨2, 6⟩) = true ∧ 7 + 1 < w.span ∧ 7 + 1 = 8) ∧
    (echoPasses w 9 .silent = true ∧ 9 + 1 < w.span ∧ 10 ≤ 9 + 1 ∧ (9 + 1) % 5 = 0) ∧
    (echoPasses w 0 .noise = true ∧ 0 + 1 < 8) ∧
    (echoPasses w 29 .silent = true ∧ w.span ≤ 29 + 1) := by decide +kernel

theorem test_meets_SpoiledAttemptBacksOffOrGivesUp :
    let w : LineWord := ⟨.poll, 7, 3, none⟩
    (inService (sending 11 4) = true ∧ ownCode (sending 11 4) = some 3 ∧
      (sending 11 4).tx.attempt = some ⟨.request, 11, true⟩ ∧
      (sending 11 4).tx.entries .request = entry .poll 7 4 0 false :: [entry .ring 8 0 0 false] ∧
      echoPasses w 11 .overlap = false) ∧
    ((entry .poll 7 4 0 false).attempts < 5 ∧
      ∀ x ∈ [entry .ring 8 0 0 false], x.word.dst ≠ 7) ∧
    ([entry .ring 8 0 0 false, entry .ring 7 0 0 false] =
        [entry .ring 8 0 0 false] ++ entry .ring 7 0 0 false :: [] ∧
      (entry .ring 7 0 0 false).word.dst = 7) ∧
    5 ≤ (entry .poll 7 5 0 false).attempts := by decide +kernel

/-- Refused on-hook, at the trunk-end, in UNSET and by rank; taken on an idle voice and over an equal rank. -/
theorem test_meets_StartIsTakenByRank :
    (Script.busy.voice = .earpiece ∧ base.engine.offHook = false) ∧
    (Script.trunk.voice = .ringer ∧ isTrunkEnd (atStation 15) = true) ∧
    (Script.trunk.voice = .ringer ∧ inService State.reset = false) ∧
    (let s : State := { lifted with engine.ear.script := some .error, engine.ear.starter := some .requestUnit }
    (s.engine.voice .earpiece).script = some .error ∧ Script.instruct.rank < Script.error.rank ∧
      ¬Script.busy.rank < Script.error.rank ∧ s.engine.offHook = true) ∧
    (inService base = true ∧ isTrunkEnd base = false ∧ (base.engine.voice .ringer).script = none) ∧
    (let s : State :=
      { base with engine.bell := ⟨true, 0, 164, 0, some .trunk, 0, 9, 1, false, some .answerUnit, true⟩ }
    (s.engine.voice .ringer).script ≠ none ∧ (s.engine.voice .ringer).starter = some .answerUnit ∧
      (s.engine.voice .ringer).starter ≠ some .requestUnit) := by
  decide +kernel

/-- Station 7's call on the bell, the ringing at this step, with `n` cycles counted. -/
def belling (index n : Nat) : State :=
  { base with
    answer.slot := some ⟨.ringing .ringer, 7, .trunk, n, 0, 500⟩
    engine.bell := ⟨true, 0, 164, 0, some .trunk, index, 0, 1, false, some .answerUnit, true⟩ }

/-- BUSY in the earpiece at this step. -/
def tone (index : Nat) (stop : Bool) : State :=
  { lifted with
    engine.ear := ⟨true, 0, 3932, 10, some .busy, index, 0, 1, stop, some .requestUnit, true⟩ }

/-- ERROR in the earpiece at its last QUIET, this often played. -/
def erring (plays : Nat) : State :=
  { lifted with
    engine.ear := ⟨true, 0, 11469, 10, some .error, 3, 0, plays, false, some .requestUnit, true⟩ }

/-- URGENT-CALL in the earpiece at its mark, with the slot's counts. -/
def calling (cycles marks : Nat) : State :=
  { lifted with
    answer.slot := some ⟨.ringing .earpiece, 7, .urgent, cycles, marks, 500⟩
    engine.ear := ⟨true, 0, 14746, 10, some .urgentCall, 2, 0, 1, false, some .answerUnit, true⟩ }

/-- ALERT on the bell at its last step, over an ordinary call that rings. -/
def alerted (plays : Nat) : State :=
  { base with
    answer.slot := some ⟨.ringing .ringer, 7, .ordinary, 3, 0, 500⟩
    engine.bell := ⟨true, 0, 164, 0, some .alert, 1, 0, plays, false, some .lineView, true⟩ }

theorem test_meets_ScriptStepEndBeginsTheNextStep :
    (let c := (tone 1 false).engine.voice .earpiece
    Ready (tone 1 false) ∧ c.script = some .busy ∧ c.begun = true ∧ c.remaining = 0 ∧
      Script.busy.steps[c.index + 1]? = some .mark ∧ Script.busy.steps[c.index + 2]? = some (.again 0) ∧
      Script.busy.steps[0]? = some (.sound .p480 50) ∧ c.stopPending = false ∧
      c.starter ≠ some .answerUnit) ∧
    (Script.busy.steps[(tone 0 false).engine.ear.index + 1]? = some (.quiet 50) ∧
      (tone 1 true).engine.ear.stopPending = true ∧
      Script.error.steps[0 + 1]? = some (.sound .p1400 33)) ∧
    (let c := (belling 3 9).engine.bell
    Ready (belling 3 9) ∧ (belling 3 9).answer.slot = some ⟨.ringing .ringer, 7, .trunk, 9, 0, 500⟩ ∧
      Script.trunk.voice = .ringer ∧ c.script = some .trunk ∧ c.starter = some .answerUnit ∧
      c.begun = true ∧ c.remaining = 0 ∧ c.stopPending = false ∧
      Script.trunk.steps[c.index + 1]? = some .mark ∧
      Script.trunk.steps[c.index + 2]? = some (.again 0) ∧
      Script.trunk.steps[0]? = some (.sound .bell20 100) ∧
      8 + 1 < cycleLimit (belling 3 8) ∧ cycleLimit (belling 3 9) ≤ 9 + 1) ∧
    (∀ plays ∈ [2, 3],
      let c := (erring plays).engine.voice .earpiece
      Ready (erring plays) ∧ c.script = some .error ∧ c.begun = true ∧ c.remaining = 0 ∧
        Script.error.steps[c.index + 1]? = some .mark ∧
        Script.error.steps[c.index + 2]? = some (.again 3) ∧
        Script.error.steps[0]? = some (.sound .p950 33) ∧ c.stopPending = false ∧
        c.starter ≠ some .answerUnit ∧ 1 ≤ 3 ∧ c.plays = plays) ∧
    (∀ marks ∈ [2, 3],
      let s := calling 9 marks
      let c := s.engine.ear
      Ready s ∧ s.answer.slot = some ⟨.ringing .earpiece, 7, .urgent, 9, marks, 500⟩ ∧
        c.script = some .urgentCall ∧ c.starter = some .answerUnit ∧ c.begun = true ∧
        c.remaining = 0 ∧ c.stopPending = false ∧ c.index = 2 ∧ cycleLimit s ≤ 9 + 1 ∧
        8 + 1 < cycleLimit (calling 8 3)) ∧
    (let s := alerted 5
    let c := s.engine.bell
    Ready s ∧ s.answer.slot = some ⟨.ringing .ringer, 7, .ordinary, 3, 0, 500⟩ ∧
      s.answer.offHook = false ∧ isTrunkEnd s = false ∧ inService s = true ∧
      Script.alert.voice = .ringer ∧ c.script = some .alert ∧ c.starter = some .lineView ∧
      Agent.lineView ≠ .answerUnit ∧ c.begun = true ∧ c.remaining = 0 ∧ c.stopPending = false ∧
      Script.alert.steps[c.index + 1]? = some .mark ∧
      Script.alert.steps[c.index + 2]? = some (.again 5) ∧
      Script.alert.steps[0]? = some (.sound .bell20 200) ∧ 1 ≤ 5 ∧ 5 ≤ c.plays) := by
  refine ⟨?_, ?_, ?_, ?_, ?_, ?_⟩ <;> decide +kernel

theorem test_meets_LineIdleFreesTheView :
    let s : State := { barredOff with view.idle := 50 }
    Ready s ∧ s.view.idle = 50 ∧ s.view.record ≠ .free := by decide +kernel

theorem test_meets_AnswerReachesAFreeOrHeldView :
    base.view.record = .free ∧
    (let s := withView (.held 5 11 .ordinary) (atStation 5)
    s.view.record = .held 5 11 .ordinary ∧ isParty s = true ∧ ownCode s ≠ some 2 ∧
      ownCode s = some 5 ∧ ¬((5 : Code) = 2 ∧ (11 : Code) = 7)) ∧
    isParty (withView (.held 5 11 .ordinary) base) = false ∧
    (let s : State := { base with view.rings := [⟨5, 8, .urgent⟩] ++ ⟨5, 11, .trunk⟩ :: [] }
    s.view.rings = [⟨5, 8, .urgent⟩] ++ ⟨5, 11, .trunk⟩ :: [] ∧
      (∀ r ∈ [RingEntry.mk 5 8 .urgent], ¬(r.caller = 5 ∧ r.called = 11)) ∧
      (∀ r ∈ s.view.rings, ¬(r.caller = 11 ∧ r.called = 5))) ∧
    (heldByOthers base = false ∧
      heldByOthers (viewWord false ⟨.answer, 5, 11, none⟩ base) = true ∧
      heldByOthers (viewWord false ⟨.answer, 3, 11, none⟩ base) = false) := by decide +kernel

theorem test_meets_AnswerReachesABrokenView :
    let s := withView (.broken 2 11 (some (5, 11))) (atStation 5)
    s.view.record = .broken 2 11 (some (5, 11)) ∧
    ((11 : Code) = 11 ∧ (2 : Code) = 2) ∧
    (¬((11 : Code) = 11 ∧ (5 : Code) = 2) ∧ some ((5 : Code), (11 : Code)) = some (5, 11)) ∧
    (some ((5 : Code), (11 : Code)) ≠ some (8, 9) ∧ isInvolved s = true ∧ ownCode s ≠ some 8 ∧
      ownCode s ≠ some 9) ∧
    isInvolved (withView (.broken 2 11 none) base) = false := by decide +kernel

theorem test_meets_ClearIsAppliedToTheView :
    base.view.pendingClear = none ∧ base.view.record = .free ∧
    (withView (.held 5 11 .ordinary) base).view.record = .held 5 11 .ordinary ∧
    (withView (.broken 2 11 (some (5, 11))) base).view.record = .broken 2 11 (some (5, 11)) ∧
    ((5 : Code) ≠ 2 ∧ (5 : Code) ≠ 11) := by decide

theorem test_meets_BreakReachesTheView :
    (11 : Code) ≠ 0 ∧ base.view.record = .free ∧
    (withView (.held 5 11 .urgent) base).view.record = .held 5 11 .urgent ∧
    (withView (.broken 8 4 none) base).view.record = .broken 8 4 none ∧
    (ownCode base ≠ none ∧ ownCode base ≠ some 2 ∧ ownCode base = some 3 ∧
      (∃ a b, (withView (.held 3 7 .ordinary) base).view.record.parties = some (a, b) ∧
        (ownCode base = some a ∨ ownCode base = some b))) ∧
    (let s : State :=
      { lifted with engine.ear.script := some .urgentCall, engine.ear.starter := some .answerUnit }
    s.engine.ear.script = some .urgentCall ∧ s.engine.ear.starter ≠ some .lineView) ∧
    (heldByOthers base = false ∧ heldByOthers (viewWord false ⟨.brk, 5, 11, none⟩ base) = true) := by
  refine ⟨?_, ?_, ?_, ?_, ⟨?_, ?_, ?_, 3, 7, ?_, ?_⟩, ?_, ?_⟩ <;> decide +kernel

theorem test_meets_OwnClearIsPendingUntilSettled :
    (let s := withView (.held 3 7 .ordinary) base
    ownCode s = some 3 ∧ s.view.record.parties = some (3, 7)) ∧
    (let s := withView (.broken 2 3 (some (7, 3))) base
    s.view.record.parties = some (7, 3) ∧ (3 : Code) ≠ 7) ∧
    isParty (withView (.held 5 11 .ordinary) base) = false ∧
    (let s : State :=
      { withView (.held 3 7 .ordinary) base with view.pendingClear := some ⟨7, 3, 7⟩ }
    s.view.pendingClear = some ⟨7, 3, 7⟩ ∧ s.view.record.parties = some (3, 7) ∧
      (LineWord.mk .clear 7 3 none).kind = .clear ∧ (LineWord.mk .clear 7 3 none).dst = 7 ∧
      (LineWord.mk .clear 8 3 none).dst ≠ 7) ∧
    (let s : State :=
      { withView (.broken 2 3 (some (7, 3))) base with view.pendingClear := some ⟨7, 3, 7⟩ }
    s.view.record.parties ≠ some (3, 7)) := by decide +kernel

/-- The slot's timer over, in each state. -/
theorem test_meets_SlotExpiriesEmptyTheSlot :
    ∀ ph ∈ [CallPhase.answered, .delivered, .ringing .ringer, .ringing .earpiece, .expired],
      Ready (withCall ph .urgent 0 base) ∧
        (withCall ph .urgent 0 base).answer.slot = some ⟨ph, 7, .urgent, 0, 0, 0⟩ := by
  decide +kernel

theorem test_meets_PollIsAnsweredByTheTable :
    (∀ ph ∈ [CallPhase.answered, .delivered, .ringing .ringer, .expired],
      (withCall ph .trunk 1 base).answer.slot = some ⟨ph, 7, .trunk, 0, 0, 1⟩) ∧
    base.answer.slot.map (·.caller) ≠ some 7 := by decide +kernel

/-- A RING at a farm: glare with a lower and a higher code, no glare, a call to preempt, an involved station, one barred, one off-hook and busy; and at the trunk-end. -/
theorem test_meets_RingIsTakenOrRefused :
    (base.answer.slot.map (·.caller) ≠ some 7 ∧ ownCode base = some 3 ∧ (3 : Code) ≠ 15) ∧
    (let s := withRequest .requesting .ordinary .reply 100 base
    s.request.record = some ⟨.requesting, 7, .ordinary, 1, 0, false, false, .reply, 100⟩ ∧
      (3 : Code) < 7 ∧ (3 : Code) ≤ 3) ∧
    (base.request.record = none ∧
      (withCall (.ringing .ringer) .ordinary 500 base).answer.slot.map (·.caller) ≠ some 8) ∧
    (isInvolved (withView (.held 3 7 .ordinary) base) = true ∧
      heldByOthers (withView (.held 5 11 .ordinary) base) = true) ∧
    (base.view.record = .free ∧ base.answer.offHook = false ∧ lifted.answer.offHook = true ∧
      isInvolved lifted = false ∧ lifted.request.pendingBreak = none) ∧
    (let s := withRequest .waiting .ordinary .delay 9 (atStation 9)
    s.answer.slot.map (·.caller) ≠ some 7 ∧ ownCode s = some 9 ∧ (7 : Code) ≤ 9 ∧
      s.request.record = some ⟨.waiting, 7, .ordinary, 1, 0, false, false, .delay, 9⟩) ∧
    (let s := atStation 15
    s.answer.slot.map (·.caller) ≠ some 4 ∧ ownCode s = some 15 ∧ s.answer.slot = none ∧
      s.request.record = none ∧ s.view.record = .free ∧ s.answer.offHook = false) ∧
    (let s := withRequest (.failed .lost) .trunk .showing 9 (atStation 15)
    ownCode s = some 15 ∧ (7 : Code) ≠ 4 ∧
      s.request.record = some ⟨.failed .lost, 7, .trunk, 1, 0, false, false, .showing, 9⟩) ∧
    (let s : State := { atStation 15 with trunk.silence := 299 }
    s.request.record = none ∧ s.trunk.silence < 300 ∧ s.trunk.latched ≠ some 4 ∧
      ¬(atStation 15).trunk.silence < 300 ∧ isParty connected = true) := by decide +kernel

theorem test_meets_SlotFollowsHookClearAndLine :
    (∀ ph ∈ [CallPhase.answered, .delivered, .ringing .ringer, .ringing .earpiece, .expired],
      (withCall ph .ordinary 9 base).answer.slot = some ⟨ph, 7, .ordinary, 0, 0, 9⟩) ∧
    base.answer.slot = none ∧ CallClass.ordinary ≠ .urgent ∧
    viewClears 7 (withView (.held 7 3 .ordinary) base) = true ∧ viewClears 7 base = false ∧
    (8 : Code) ≠ 7 := by decide +kernel

theorem test_meets_RecordExpiriesActByStateAndWait :
    (∀ st ∈ [(RequestState.requesting, RequestWait.reply), (.waiting, .delay), (.waiting, .reply),
        (.reverting, .revert), (.failed .lost, .showing)],
      Ready (withRequest st.1 .urgent st.2 0 base) ∧
        (withRequest st.1 .urgent st.2 0 base).request.record =
          some ⟨st.1, 7, .urgent, 1, 0, false, false, st.2, 0⟩) ∧
    (2 < 3 ∧ 3 ≤ 3 ∧ 1 + 1 < 3 ∧ 3 ≤ 2 + 1) ∧
    ((LineWord.mk .brk 0 3 none).kind = .brk ∧ (LineWord.mk .brk 0 3 none).dst = 0 ∧
      (LineWord.mk .brk 7 3 none).dst ≠ 0 ∧ base.request.pendingBreak ≠ some 7 ∧
      (LineWord.mk .hold 7 3 none).kind ≠ .ring) ∧
    (let s : State := { base with request.pendingBreak := some 7 }
    s.request.pendingBreak = some 7 ∧ s.answer.slot = none ∧
      (withCall .delivered .ordinary 9 s).answer.slot ≠ none) ∧
    (∀ misses ∈ [1, 2],
      let s : State :=
        { base with request.record := some ⟨.waiting, 7, .ordinary, 1, misses, false, false, .sending, 0⟩ }
      s.request.record = some ⟨.waiting, 7, .ordinary, 1, misses, false, false, .sending, 0⟩) ∧
    ((withRequest .requesting .urgent .sending 0 base).request.record =
        some ⟨.requesting, 7, .urgent, 1, 0, false, false, .sending, 0⟩ ∧
      base.request.record = none) ∧
    (let s := withRequest (.failed .lost) .ordinary .stopped 0 lifted
    s.request.record = some ⟨.failed .lost, 7, .ordinary, 1, 0, false, false, .stopped, 0⟩ ∧
      s.request.offHook = true ∧ Script.busy ≠ .error) := by
  refine ⟨?_, ?_, ?_, ?_, ?_, ?_, ?_⟩ <;> decide +kernel

theorem test_meets_FailedRecordShowsItsReason :
    base.request.offHook = false ∧ lifted.request.offHook = true ∧
      RequestState.waiting ≠ .reverting := by decide

theorem test_meets_RepliesMoveTheRecord :
    (∀ st ∈ [RequestState.requesting, .waiting, .reverting, .failed .busy],
      (withRequest st .trunk .reply 1 base).request.record =
        some ⟨st, 7, .trunk, 1, 0, false, false, .reply, 1⟩) ∧
    (7 : Code) = (LineWord.mk .refuse 3 7 (some 4)).src ∧
    (7 : Code) ≠ (LineWord.mk .hold 3 8 none).src ∧ CallClass.urgent ≠ .trunk ∧
    lifted.request.offHook = true ∧ base.request.offHook = false := by decide +kernel

/-- R137, R140: an ANSWER taken on-hook after two missed polls begins REVERTING with misses at 0. -/
theorem test_answer_after_misses :
    (ruWord ⟨.answer, 3, 7, none⟩
      { base with request.record := some ⟨.waiting, 7, .ordinary, 1, 2, true, false, .reply, 40⟩ }).request.record =
      some ⟨.reverting, 7, .ordinary, 1, 0, false, false, .revert, 1500⟩ := by decide +kernel

theorem test_meets_RecordFollowsHookAndLine :
    (∀ st ∈ [RequestState.requesting, .waiting, .reverting, .failed .busy],
      (withRequest st .urgent .showing 1 base).request.record =
          some ⟨st, 7, .urgent, 1, 0, false, false, .showing, 1⟩ ∧
        (withRequest st .urgent .showing 1 base).request.pendingBreak = none) ∧
    slotAnswerable (withCall .answered .ordinary 9 base) = true ∧ slotAnswerable base = false ∧
    (let s : State :=
      { withLanes [entry .brk 7 0 0 false] [] lifted with request.pendingBreak := some 7 }
    s.request.pendingBreak = some 7 ∧ s.request.record = none ∧
      s.tx.queued .prompt = [entry .brk 7 0 0 false] ∧ (ruHangUp s).tx.prompt = []) ∧
    (base.request.record = none ∧ base.request.pendingBreak = none) := by
  decide +kernel

/-- The dial contact read with dialling open: at the opening counts 2 and 3, in BARRED, and with the digit wait running; with dialling closed off-hook and on-hook; one sample short; a restart due. -/
theorem test_meets_TickMovesTheTickCounts :
    (let s : State := atEnd { tone 0 false with engine.ear.remaining := 1, link.powerOn := 5999 }
    Ready s ∧ NothingDue s ∧ 80 ≤ s.frame.tickPos ∧ isTrunkEnd s = false ∧
      s.engine.bell.script = none ∧ (s.engine.voice .earpiece).script = some .busy ∧
      (s.engine.voice .earpiece).begun = true) ∧
    (let t : State := atEnd { lifted with engine.ear.play := true, engine.ear.script := some .busy }
    Ready t ∧ NothingDue t ∧ (t.engine.voice .earpiece).script = some .busy ∧
      (t.engine.voice .earpiece).begun = false ∧ Script.busy.steps[0]? = some (.sound .p480 50)) ∧
    (∀ n ∈ [2, 3],
      let s : State := atEnd
        { lifted with
          dial.opening := n, dial.buffer := [1], dial.digitWait := some 300, pins.dialClosed := false }
      Ready s ∧ NothingDue s ∧ s.dial.hook = .offHook ∧ s.request.record = none ∧
        s.request.pendingBreak = none ∧ isParty s = false ∧ s.answer.slot = none ∧
        s.settings ≠ none ∧ s.link.setupMode = false ∧ s.dial.state ≠ .barred ∧ s.dial.opening = n) ∧
    (let s : State := atEnd { lifted with dial.state := .barred, dial.closure := 29 }
    Ready s ∧ NothingDue s ∧ diallingOpen s = true ∧ s.dial.state = .barred) ∧
    (let s : State := atEnd (withCall .delivered .ordinary 9 lifted)
    Ready s ∧ NothingDue s ∧ s.answer.slot ≠ none ∧ s.dial.hook ≠ .onHook) ∧
    (let s : State := atEnd { base with dial.hook := .onHook, dial.period := 79 }
    Ready s ∧ NothingDue s ∧ s.dial.hook = .onHook ∧ s.dial.period < 80) ∧
    (NothingDue (atEnd (atStation 15)) ∧ isTrunkEnd (atEnd (atStation 15)) = true) ∧
    ({ base with frame := ⟨159, 79⟩ } : State).frame.tickPos < 80 ∧
    (let s : State := atEnd { base with link.awaitRestart := true }
    s.powered = true ∧ 80 ≤ s.frame.tickPos ∧ settleButRestart s = s ∧ restartDue s = true) := by
  refine ⟨?_, ?_, ?_, ?_, ?_, ?_, ?_, ?_, ?_⟩ <;> decide +kernel

/-- The hook state, the level read for three ticks, and the on-hook period. -/
theorem test_meets_HookIsDebouncedAndReported :
    let s (hook : HookState) (level : Bool) (period : Nat) : State :=
      { base with dial.hook := hook, dial.rawLevel := some level, dial.rawRun := 3, dial.period := period }
    (Ready (s .unknown false 0) ∧ isTrunkEnd (s .unknown false 0) = false ∧
      (s .unknown false 0).dial.rawRun = 3 ∧ (s .unknown false 0).dial.hangUpDue = false ∧
      (s .unknown false 0).dial.rawLevel = some false ∧ (s .unknown false 0).dial.hook = .unknown) ∧
    (s .offHook false 0).dial.hook = .offHook ∧
    ((s .onHook true 19).dial.period < 20 ∧ 20 ≤ (s .onHook true 20).dial.period ∧
      (s .onHook true 79).dial.period < 80 ∧ 80 ≤ (s .onHook true 80).dial.period) ∧
    (let t : State := { lifted with dial.hangUpDue := true, dial.state := .barred }
    Ready t ∧ t.dial.hangUpDue = true ∧ t.dial.state = .barred) := by decide +kernel

theorem test_meets_PulsesAreCountedAndInvalidDigitsBarred :
    let s (pulses opening : Nat) : State :=
      { lifted with dial.state := .counting, dial.pulses := pulses, dial.opening := opening }
    (∀ n ∈ [3, 10], Ready (s 9 n) ∧ diallingOpen (s 9 n) = true ∧ (s 9 n).dial.state ≠ .barred ∧
      (s 9 n).pins.dialClosed = true ∧ 3 ≤ (s 9 n).dial.opening ∧ (s 9 n).dial.opening ≤ 10 ∧
      (s 9 n).dial.pulses < 10) ∧
    (diallingOpen (s 0 11) = true ∧ (s 0 11).dial.opening = 11 ∧ 10 ≤ (s 10 3).dial.pulses) ∧
    (let t : State := { lifted with dial.state := .barred, dial.closure := 30 }
    Ready t ∧ t.dial.state = .barred ∧ t.dial.closure = 30) := by decide +kernel

theorem test_meets_DialledNumberIsSettled :
    (2 ≤ (2 : Fin 10).val ∧ (5 : Fin 10).val ≤ 5 ∧ 6 ≤ (6 : Fin 10).val) ∧
    (let s : State := { lifted with dial.state := .counting, dial.pulses := 10, dial.closure := 30 }
    Ready s ∧ diallingOpen s = true ∧ s.dial.state = .counting ∧ s.dial.closure = 30) ∧
    (let s : State := { lifted with dial.buffer := [1], dial.digitWait := some 0 }
    Ready s ∧ diallingOpen s = true ∧ s.dial.digitWait = some 0) ∧
    (permissionsOf lifted = 3 ∧ ownCode lifted = some 3 ∧ ownCode lifted ≠ some 7 ∧
      permissionsOf State.reset ≠ 1 ∧ permissionsOf State.reset ≠ 2 ∧ permissionsOf State.reset ≠ 3) ∧
    (heldByOthers lifted = false ∧ lifted.request.record = none ∧
      lifted.request.pendingBreak = none ∧ heldByOthers barredOff = true ∧
      barredOff.view.record = .held 5 11 .ordinary) := by decide +kernel

/-- The trunk-end with the exchange's ring in this state. -/
def ringingIn (silence : Nat) (incoming : IncomingState) (testDue : Bool) : State :=
  { atStation 15 with
    pins.trunkRing := true, pins.trunkCode := 4, trunk := ⟨silence, some 4, incoming, testDue⟩ }

theorem test_meets_ExchangeCallRisesIsOfferedAndLapses :
    (let s := ringingIn 300 .idle false
    isTrunkEnd base = false ∧ isTrunkEnd s = true ∧ s.link.setupMode = false ∧
      300 ≤ s.trunk.silence ∧ s.pins.trunkRing = true ∧ (inSetup s).link.setupMode = true) ∧
    ((0 : Code) = 0 ∧ (15 : Code) = 15 ∧ (1 : Code) ≠ 0 ∧ (14 : Code) ≠ 15) ∧
    (let s := ringingIn 299 .deferred false
    isTrunkEnd s = true ∧ s.trunk.silence < 300 ∧ s.trunk.incoming = .deferred ∧
      s.trunk.latched = some 4 ∧ s.pins.trunkRing = true) ∧
    (let s : State :=
      { ringingIn 0 .offered false with
        request.record := some ⟨.waiting, 4, .trunk, 1, 0, true, false, .delay, 9⟩ }
    s.trunk.incoming = .offered ∧
      s.request.record = some ⟨.waiting, 4, .trunk, 1, 0, true, false, .delay, 9⟩) ∧
    ((ringingIn 0 .offered false).trunk.incoming = .offered ∧
      (ringingIn 0 .offered false).request.record = none) ∧
    (let s := ringingIn 299 .deferred true
    Ready s ∧ s.trunk.incoming = .deferred ∧ s.trunk.latched = some 4 ∧ s.trunk.silence ≠ 300 ∧
      s.trunk.testDue = true ∧ s.out.trunkConnect = false ∧ s.request.record = none ∧
      s.answer.slot = none ∧ s.view.record = .free ∧ (ringingIn 300 .deferred true).trunk.silence = 300 ∧
      (ringingIn 0 .deferred false).trunk.testDue = false) ∧
    (let s := ringingIn 300 .done false
    Ready s ∧ s.trunk.silence = 300 ∧ s.trunk.incoming ≠ .idle ∧ s.trunk.incoming ≠ .offered) ∧
    (let s := withRequest .waiting .trunk .delay 9 (ringingIn 300 .offered false)
    Ready s ∧ s.trunk.silence = 300 ∧ s.trunk.incoming = .offered ∧
      s.request.record = some ⟨.waiting, 7, .trunk, 1, 0, false, false, .delay, 9⟩) := by
  refine ⟨?_, ?_, ?_, ?_, ?_, ?_, ?_, ?_⟩ <;> decide +kernel

theorem test_meets_LampShowsTheFirstRowThatHolds :
    (inSetup base).link.setupMode = true ∧
    (State.reset.link.setupMode = false ∧ State.reset.settings = none) ∧
    (base.settings ≠ none ∧ base.conds.clash = false) ∧
    isParty (withView (.held 3 7 .ordinary) base) = true ∧
    (let s := withRequest (.failed .lost) .ordinary .showing 9 base
    s.request.record = some ⟨.failed .lost, 7, .ordinary, 1, 0, false, false, .showing, 9⟩ ∧
      s.request.offHook = false) ∧
    heldByOthers (withView (.held 5 11 .ordinary) base) = true ∧
    (LampPattern.steady ≠ Lamp.reset.pattern ∧ LampPattern.off = Lamp.reset.pattern) := by
  decide +kernel

theorem test_meets_SetupLinkTakesBytesAndTimes :
    (base.powered = true ∧ completedCommand base.link.partialCmd = none ∧ base.link.partialCmd = [] ∧
      base.link.awaitRestart = false) ∧
    (let s (gap : Nat) : State := { base with link.partialCmd := [0x31, 8], link.gap := gap }
    completedCommand (s 1).link.partialCmd = none ∧ 0 < (s 1).link.gap ∧
      (s 0).link.partialCmd ≠ [] ∧ (s 0).link.gap = 0) ∧
    (let s : State := { base with link.partialCmd := [0x10, 8], link.gap := 1 }
    completedCommand s.link.partialCmd = some (.read 8) ∧ s.link.awaitRestart = false) ∧
    (let s : State := { base with link.replies := [[0x00]], link.awaitRestart := true }
    s.link.sending = none ∧ s.link.replies = [0x00] :: [] ∧ s.link.awaitRestart = true) ∧
    (({ base with link.sending := some ⟨[0x00], 1⟩ } : State).link.sending ≠ none ∧
      base.link.replies = []) ∧
    (let s : State := { base with link.powerOn := 5999, link.windowDue := true }
    s.link.windowDue = true) := by decide +kernel

theorem test_meets_SetupReportsAreAnswered :
    (SetupCommandArrives [0x10, 8] base ∧ storeBusy base = false ∧ (8 : Byte).toNat ≤ 8 ∧
      8 < (9 : Byte).toNat ∧ storeBusy (storeAt (.erasing 96)) = true ∧
      SetupCommandArrives [0x10, 9] (storeAt (.erasing 96))) ∧
    (SetupCommandArrives [0x40] base ∧ SetupCommandArrives [0x41] base ∧
      SetupCommandArrives [0x50] base) ∧
    (SetupCommandArrives [0x11] base ∧ (0x11 : Byte) ∉ commandBytes) ∧
    (State.reset.settings = none ∧ OfflineIsEmpty State.reset ∧ State.reset.det.floor ≤ 65535) ∧
    (∀ got ∈ [[], [0x10], [0x10, 8]],
      SetupCommandArrives [0x10, 8] { base with link.partialCmd := got, link.gap := 1 }) := by
  decide +kernel

theorem test_meets_EraseWriteLeaveAndRestartAreJudged :
    let s := inSetup base
    (SetupCommandArrives [0x30] s ∧ SetupCommandArrives [0x21] s ∧ SetupCommandArrives [0x60] s ∧
      storeBusy s = false ∧ s.link.setupMode = true ∧ base.link.setupMode = false ∧
      storeBusy (storeAt (.writing 0 1 16)) = true) ∧
    (SetupCommandArrives [0x31, 8, 0xA5] s ∧ SetupCommandArrives [0x31, 0, 9] s ∧
      s.store.page.c8 = 0xFF ∧ s.store.page.get 8 = 0xFF ∧ s.store.page.get 0 = 0xFF) ∧
    (8 < (9 : Byte).toNat ∧ (8 : Byte).toNat ≤ 8 ∧ (0xFE : Byte) ≠ 0xFF ∧
      (inSetup (storeAt .idle)).store.page.c8 ≠ 0xFF ∧
      (let t : State := inSetup { base with store.page.c1 := 5 }
      t.store.page.c8 = 0xFF ∧ t.store.page.get 1 ≠ 0xFF)) := by decide +kernel

theorem test_meets_EnterSetupIsRefusedOrEmptiesTheCalls :
    (SetupCommandArrives [0x20] (inSetup base) ∧ (inSetup base).link.setupMode = true) ∧
    (let s (n : Nat) : State := { base with link.powerOn := n }
    SetupCommandArrives [0x20] (s 5999) ∧ (s 5999).link.powerOn < 6000 ∧
      (s 5999).answer.slot = none ∧ (s 5999).request.record = none ∧ ¬(s 6000).link.powerOn < 6000 ∧
      (s 6000).settings ≠ none) ∧
    (SetupCommandArrives [0x20] State.reset ∧ State.reset.settings = none) := by decide +kernel

end Sys2Proof.Tests
end

section
/-! The Word Receiver's decisions: what breaking a word does to the state, and R40. -/

namespace Sys2Proof.Machine

/-- R38 to R45: a word is broken the same way with and without a record. The record is gone afterwards, and BROKEN-WORD records whether there was one. -/
theorem breakWord_eq (s : State) :
    breakWord s =
      { s with
        rx := { s.rx with word := none }
        conds := { s.conds with brokenWord := s.conds.brokenWord || s.rx.word.isSome } } := by
  obtain hw | ⟨r, hw⟩ := Option.eq_none_or_eq_some s.rx.word
  · have no_word : ({ s.rx with word := none } : Receiver) = s.rx := by rw [← hw]
    simp [breakWord, hw, no_word]
  · simp [breakWord, hw, setBrokenWord, setWord]

/-- R48: bringing the own marks up to date neither opens nor removes a word. -/
@[simp] theorem markOwn_word_isSome (inTx : Bool) (s : State) :
    (markOwn inTx s).rx.word.isSome = s.rx.word.isSome :=
  Option.isSome_map

/-- Settles O23: the marks are lost with the records, and `breakWord_eq` gives the rest, with a word in assembly or without one. -/
theorem overlapBreaksReception : Obligations.OverlapBreaksReception := by
  intro inTx o s
  calc rxDecide .overlap inTx o s
      = setSymbol .idle (breakWord (setUnusable 0 (markOwn inTx s))) := rfl
    _ = { s with
          rx := ⟨.idle, none, 0⟩
          conds := { s.conds with
            brokenWord := s.conds.brokenWord || (markOwn inTx s).rx.word.isSome } } := by
      rw [breakWord_eq]; rfl
    _ = _ := by rw [markOwn_word_isSome]

end Sys2Proof.Machine
end

section
/-! The Word Transmitter's quiet count: the operations that leave it alone, and R75. -/

namespace Sys2Proof.Machine

variable (s : State)

/-! ## The line voices and a notice leave the transmitter as it was -/

@[simp] theorem lineHold_tx (p : Pair) : (lineHold p s).tx = s.tx := by
  unfold lineHold; split <;> rfl

@[simp] theorem lineGap_tx : (lineGap s).tx = s.tx := by
  unfold lineGap; split <;> rfl

@[simp] theorem lineStop_tx : (lineStop s).tx = s.tx := by
  unfold lineStop; split <;> rfl

@[simp] theorem noteDisplaced_tx (o : Agent) (e : Entry) : (noteDisplaced o e s).tx = s.tx := by
  unfold noteDisplaced; split <;> rfl

@[simp] theorem boundaryCommand_tx (w : LineWord) (pos : Nat) :
    (boundaryCommand w pos s).tx = s.tx := by
  unfold boundaryCommand
  split
  · exact lineHold_tx s _
  · split
    · exact lineGap_tx s
    · rfl

/-! ## What leaves the quiet count as it was -/

@[simp] theorem setEntries_quiet (t : Transmitter) (l : Lane) (es : List Entry) :
    (t.setEntries l es).quiet = t.quiet := by
  cases l <;> rfl

@[simp] theorem markForRetry_quiet (l : Lane) (e : Entry) (rest : List Entry) :
    (markForRetry l e rest s).tx.quiet = s.tx.quiet := by
  unfold markForRetry
  cases takeOut e.word.dst rest <;> simp

@[simp] theorem giveUp_quiet (l : Lane) (e : Entry) (rest : List Entry) :
    (giveUp l e rest s).tx.quiet = s.tx.quiet := by
  simp [giveUp, setSendAbandoned]

@[simp] theorem spoil_quiet (l : Lane) (e : Entry) (rest : List Entry) :
    (spoil l e rest s).tx.quiet = s.tx.quiet := by
  unfold spoil
  split <;> simp

@[simp] theorem completeAttempt_quiet (l : Lane) (e : Entry) (rest : List Entry) :
    (completeAttempt l e rest s).tx.quiet = s.tx.quiet := by
  simp [completeAttempt]

@[simp] theorem applyWaiting_quiet : (applyWaiting s).tx.quiet = s.tx.quiet := by
  unfold applyWaiting
  split
  · split <;> rfl
  · rfl

/-! ## The quiet count after a decision -/

/-- R75: waiting and in a back-off alike, a decision outside an attempt moves the quiet count. -/
theorem txIdleDecide_quiet (d : Decision) :
    (txIdleDecide d s).tx.quiet = movedQuiet s.tx.cutBlock s.tx.quiet d := by
  unfold txIdleDecide
  split
  · exact applyWaiting_quiet _
  · rfl

/-- R75: a decision during an attempt holds the quiet count at 0, whether the attempt goes on, is spoiled or completes. -/
theorem txAttemptDecide_quiet (a : Attempt) (d : Decision) :
    (txAttemptDecide a d s).tx.quiet = 0 := by
  unfold txAttemptDecide
  split
  · rfl
  · split
    · exact spoil_quiet _ _ _ _
    · split
      · simp
      · exact completeAttempt_quiet _ _ _ _

theorem txDecide_of_no_attempt {s : State} (h : s.tx.attempt = none) (d : Decision) :
    txDecide d s = txIdleDecide d s := by
  simp [txDecide, h]

theorem txDecide_of_attempt {s : State} {a : Attempt} (h : s.tx.attempt = some a) (d : Decision) :
    txDecide d s = txAttemptDecide a d s := by
  simp [txDecide, h]

/-- Settles O31: outside an attempt the count is `movedQuiet`, in one it is 0 however the attempt fares. -/
theorem quietCountFollowsTheDecisions : Obligations.QuietCountFollowsTheDecisions := by
  intro d s
  refine ⟨fun idle uncut silent => ?_, fun idle loud => ?_, fun busy => ?_⟩
  · rw [txDecide_of_no_attempt idle, txIdleDecide_quiet]
    simp [movedQuiet, silent, uncut]
  · rw [txDecide_of_no_attempt idle, txIdleDecide_quiet]
    simp [movedQuiet, loud]
  · obtain ⟨a, attempt⟩ := Option.ne_none_iff_exists'.mp busy
    rw [txDecide_of_attempt attempt, txAttemptDecide_quiet]

end Sys2Proof.Machine
end

section
/-! The Line View's ANSWER: what replacing the view record does to the view, and R91. -/

namespace Sys2Proof.Machine

variable (s : State)

/-! ## The view after its record is replaced -/

/-- Starts and stops leave the view as it was. -/
theorem view_eq_of_voice {s t : State} (h : OnlyParts voiceParts s t) : t.view = s.view :=
  h .view (by decide)

@[simp] theorem privacyTone_view (was now : Bool) : (privacyTone was now s).view = s.view := by
  unfold privacyTone
  split
  · exact view_eq_of_voice (voice_start s _ _)
  · split
    · exact view_eq_of_voice (voice_stopNow s _ _)
    · rfl

@[simp] theorem refreshOutputs_view : (refreshOutputs s).view = s.view :=
  privacyTone_view _ _ _

@[simp] theorem noteHeld_view (before : Bool) : (noteHeld before s).view = s.view := by
  unfold noteHeld; split <;> rfl

/-- R99 to R101: what follows a change of the record at once leaves the view alone. -/
@[simp] theorem setView_view (r : ViewRecord) :
    (setView r s).view = { s.view with record := r } := by
  simp [setView]

/-- R90, R91: an ANSWER that is taken sets the record and the idle count, nothing else of the view. -/
@[simp] theorem takeAnswer_view (x y : Code) (cls : CallClass) :
    (takeAnswer x y cls s).view = { s.view with record := .held x y cls, idle := 0 } := by
  simp [takeAnswer]

/-! ## The ring memory -/

theorem RingEntry.between_comm (e : RingEntry) (p q : Code) : e.between p q = e.between q p :=
  Bool.or_comm _ _

/-- R90, R91: an ANSWER, taken or not, leaves the ring memory to R89. -/
@[simp] theorem viewAnswer_rings (x y : Code) :
    (viewAnswer x y s).view.rings = s.view.rings := by
  unfold viewAnswer
  simp only
  split
  · simp
  · split_ifs <;> simp
  · split_ifs <;> simp

/-- R89: an ANSWER heard is first taken by R90 or R91, then its ring is forgotten. -/
theorem viewWord_answer_view (own : Bool) (x y : Code) (arg : Option Code) :
    (viewWord own ⟨.answer, x, y, arg⟩ s).view =
      { (viewAnswer x y s).view with
        rings := s.view.rings.filter (fun e => !e.between x y) } := by
  simp [viewWord, forgetRing, RingEntry.between_comm _ y x]

/-! ## R91, row by row -/

theorem ownAmong_iff (x y : Code) :
    ownAmong x y s = true ↔ ownCode s = some x ∨ ownCode s = some y := by
  simp [ownAmong]

section Broken

variable {s : State} {x y k g : Code} {ab : Option (Code × Code)}

/-- R91, first row: the urgent answer. -/
theorem viewAnswer_urgent (broken : s.view.record = .broken k g ab) (urgent : y = g ∧ x = k) :
    viewAnswer x y s = takeAnswer x y .urgent s := by
  simp only [viewAnswer, broken, if_pos urgent]

/-- R91, second row: the old call's repeated answer. -/
theorem viewAnswer_repeated (broken : s.view.record = .broken k g ab)
    (not_urgent : ¬(y = g ∧ x = k)) (repeated : ab = some (x, y)) : viewAnswer x y s = s := by
  simp only [viewAnswer, broken, if_neg not_urgent, if_pos repeated]

/-- R91, third row: this station is involved, but not in the call answered. -/
theorem viewAnswer_elsewhere (broken : s.view.record = .broken k g ab)
    (not_urgent : ¬(y = g ∧ x = k)) (involved : isInvolved s = true)
    (not_own : ¬(ownCode s = some x ∨ ownCode s = some y)) : viewAnswer x y s = s := by
  have among : ownAmong x y s = false :=
    Bool.eq_false_iff.mpr fun h => not_own ((ownAmong_iff s x y).mp h)
  simp [viewAnswer, broken, if_neg not_urgent, involved, among]

/-- R91, last row: any other ANSWER makes a new call. -/
theorem viewAnswer_otherwise (broken : s.view.record = .broken k g ab)
    (not_urgent : ¬(y = g ∧ x = k)) (new : ab ≠ some (x, y))
    (admits : isInvolved s = false ∨ ownCode s = some x ∨ ownCode s = some y) :
    viewAnswer x y s = takeAnswer x y (classFound s.view.rings x y) s := by
  have not_kept : ¬(isInvolved s && !ownAmong x y s) = true := by
    obtain outside | own := admits
    · simp [outside]
    · simp [(ownAmong_iff s x y).mpr own]
  simp only [viewAnswer, broken, if_neg not_urgent, if_neg new, if_neg not_kept]

end Broken

/-- Settles O39: one lemma per row of R91's table; `viewWord_answer_view` gives the ring memory. -/
theorem answerReachesABrokenView : Obligations.AnswerReachesABrokenView := by
  intro own x y k g ab s broken found t kept
  have view_t : t.view = { (viewAnswer x y s).view with
      rings := s.view.rings.filter (fun e => !e.between x y) } := viewWord_answer_view s own x y none
  have kept_of (same : viewAnswer x y s = s) : kept := by
    simp [kept, view_t, same]
  have taken_of {cls : CallClass} (taken : viewAnswer x y s = takeAnswer x y cls s) :
      t.view.record = .held x y cls ∧ t.view.idle = 0 := by
    simp [view_t, taken]
  refine ⟨fun urgent => ?_, fun not_urgent repeated => ?_, fun not_urgent new => ⟨?_, ?_⟩, ?_⟩
  · exact taken_of (viewAnswer_urgent broken urgent)
  · exact kept_of (viewAnswer_repeated broken not_urgent repeated)
  · intro involved not_x not_y
    exact kept_of (viewAnswer_elsewhere broken not_urgent involved (not_or.mpr ⟨not_x, not_y⟩))
  · intro admits
    exact taken_of (viewAnswer_otherwise broken not_urgent new admits)
  · rw [view_t]

end Sys2Proof.Machine
end

section
/-! The ranges of O9, part by part. -/

namespace Sys2Proof.Machine

/-- R52: the counts of the four voices. -/
structure EngineInRange (e : Engine) : Prop where
  v0 : LineVoiceInRange e.v0
  v1 : LineVoiceInRange e.v1
  ear : ScriptVoiceInRange e.ear
  bell : ScriptVoiceInRange e.bell

/-- R77: the wait count at which a lane's head has waited long enough. -/
def Lane.waitLimit : Lane → Nat
  | .prompt => 100
  | .request => 250

/-- R71: the depth of a lane and the counts of its entries. -/
structure LaneInRange (t : Transmitter) (l : Lane) : Prop where
  depth : (t.entries l).length ≤ l.capacity
  entries : ∀ e ∈ t.entries l, e.attempts ≤ 5 ∧ e.wait ≤ l.waitLimit
  queued : ∀ e ∈ t.queued l, e.attempts ≤ 4

/-- R71: the transmitter's counts, its lanes' among them. -/
structure TxInRange (t : Transmitter) : Prop where
  quiet : t.quiet ≤ 3
  backOff : t.backOff ≤ 76
  lanes : ∀ l, LaneInRange t l

/-- `CountsInRange` and `LanesInDepth`, block by block. -/
structure InRange (s : State) : Prop where
  floor : 16 ≤ s.det.floor ∧ s.det.floor ≤ 65535
  engine : EngineInRange s.engine
  tx : TxInRange s.tx
  idle : s.view.idle ≤ 50
  slot : ∀ c ∈ s.answer.slot, CallInRange (cycleLimit s) c
  record : ∀ r ∈ s.request.record, RequestInRange r
  dial : DialInRange s.dial
  silence : s.trunk.silence ≤ 300
  settings : ∀ v ∈ s.settings, SettingsInRange v
  powerOn : s.link.powerOn ≤ 6000
  gap : s.link.gap ≤ 10
  doze : s.doze.count ≤ 100

theorem inRange_iff (s : State) : InRange s ↔ CountsInRange s ∧ LanesInDepth s := by
  constructor
  · rintro ⟨floor, ⟨v0, v1, ear, bell⟩, ⟨quiet, backOff, lanes⟩, idle, slot, record, dial, silence,
      settings, powerOn, gap, doze⟩
    obtain ⟨⟨dp, ep, qp⟩, ⟨dr, er, qr⟩⟩ := And.intro (lanes .prompt) (lanes .request)
    exact ⟨⟨floor, ⟨v0, v1, ear, bell⟩, ⟨quiet, backOff, ⟨ep, qp⟩, er, qr⟩, idle, slot, record, dial,
      silence, settings, powerOn, gap, doze⟩, dp, dr⟩
  · rintro ⟨⟨floor, ⟨v0, v1, ear, bell⟩, ⟨quiet, backOff, ⟨ep, qp⟩, er, qr⟩, idle, slot, record, dial,
      silence, settings, powerOn, gap, doze⟩, dp, dr⟩
    exact ⟨floor, ⟨v0, v1, ear, bell⟩, ⟨quiet, backOff, fun
      | .prompt => ⟨dp, ep, qp⟩
      | .request => ⟨dr, er, qr⟩⟩, idle, slot, record, dial, silence, settings, powerOn, gap, doze⟩


end Sys2Proof.Machine
end

section
/-! The Tone Engine keeps its counts in range. -/

namespace Sys2Proof.Machine

variable (s : State)

/-! ## The voices -/

theorem EngineInRange.voice {e : Engine} (h : EngineInRange e) (v : ScriptVoice) :
    ScriptVoiceInRange (e.voice v) := by
  cases v
  · exact h.ear
  · exact h.bell

theorem EngineInRange.setVoice {e : Engine} (h : EngineInRange e) (v : ScriptVoice)
    {c : CadenceVoice} (hc : ScriptVoiceInRange c) : EngineInRange (e.setVoice v c) := by
  cases v
  · exact { h with ear := hc }
  · exact { h with bell := hc }

theorem scriptVoiceInRange_idled {c : CadenceVoice} (h : ScriptVoiceInRange c) :
    ScriptVoiceInRange c.idled := by
  obtain ⟨phase, step, level, index, remaining, -⟩ := h
  exact ⟨phase, step, level, index, remaining, Nat.zero_le _⟩

theorem scriptVoiceInRange_loaded {c : CadenceVoice} (h : ScriptVoiceInRange c) (sc : Script)
    (a : Agent) : ScriptVoiceInRange (c.loaded sc a) := by
  obtain ⟨phase, step, level, -⟩ := h
  refine ⟨phase, step, ?_, Nat.zero_le _, Nat.zero_le _, ?_⟩
  on_goal 2 => exact (by decide : 1 ≤ 15)
  simp only [CadenceVoice.loaded]
  split
  · decide
  · exact level

/-- R53: a phase that moves on stays below a full turn. -/
theorem advancePhase_lt (phase step : Nat) : advancePhase phase step < 65536 :=
  Nat.mod_lt _ (by decide)

theorem lineVoiceInRange_advanced {v : LineVoice} (h : LineVoiceInRange v) :
    LineVoiceInRange v.advanced := by
  unfold LineVoice.advanced
  split
  · exact ⟨advancePhase_lt _ _, h.2⟩
  · exact h

theorem scriptVoiceInRange_advanced {c : CadenceVoice} (h : ScriptVoiceInRange c) :
    ScriptVoiceInRange c.advanced := by
  unfold CadenceVoice.advanced
  split
  · exact ⟨advancePhase_lt _ _, h.2⟩
  · exact h

/-- R54: the line level of every setting. -/
theorem lineLevelOf_le (n : Nat) : lineLevelOf n ≤ 15 := by
  match n with
  | 0 | 1 | 2 | 3 => decide
  | _ + 4 => exact Nat.le_refl 15

theorem lineVoiceInRange_held (t : Tone) (s : State) : LineVoiceInRange (heldVoice t (lineLevel s)) := by
  have step : ∀ t, tonePhaseStep t < 65536 := by decide
  exact ⟨by simp [heldVoice], step t, lineLevelOf_le _⟩

/-! ## The scripts in ROM -/

/-- R55, R58 to R60: the numbers of a script's step are in range. -/
def ScriptStep.inRange : ScriptStep → Bool
  | .sound p ticks => decide (p.step < 65536 ∧ ticks ≤ 255)
  | .quiet ticks => decide (ticks ≤ 255)
  | .mark | .finish => true
  | .again n => decide (n ≤ 15)

/-- R69, R70: every script has at most 16 steps, each in range. -/
theorem steps_inRange (sc : Script) :
    sc.steps.length ≤ 16 ∧ ∀ st ∈ sc.steps, st.inRange = true := by
  cases sc with
  | ring n => revert n; decide
  | _ => decide

/-- R57: a step of a script has an index in range. -/
theorem step_inRange {sc : Script} {i : Nat} {st : ScriptStep} (h : sc.steps[i]? = some st) :
    i ≤ 15 ∧ st.inRange = true := by
  obtain ⟨short, ok⟩ := steps_inRange sc
  obtain ⟨lt, -⟩ := List.getElem?_eq_some_iff.mp h
  exact ⟨by omega, ok st (List.mem_of_getElem? h)⟩

end Sys2Proof.Machine
end

section
/-! What every move of the blocks of the calls keeps: the ranges, the two outputs that follow the view, the conditions already set, the settings in force, the Setup Link and the queue of commands. -/

namespace Sys2Proof.Machine

/-! ## The conditions -/

/-- R163: every condition set in `c` is set in `d`. -/
structure Conditions.Within (c d : Conditions) : Prop where
  overdrive : c.overdrive = true → d.overdrive = true
  brokenWord : c.brokenWord = true → d.brokenWord = true
  clash : c.clash = true → d.clash = true
  sendAbandoned : c.sendAbandoned = true → d.sendAbandoned = true
  laneFull : c.laneFull = true → d.laneFull = true
  stuckTone : c.stuckTone = true → d.stuckTone = true
  badTrunkCode : c.badTrunkCode = true → d.badTrunkCode = true

theorem Conditions.Within.refl (c : Conditions) : c.Within c :=
  ⟨id, id, id, id, id, id, id⟩

theorem Conditions.Within.trans {c d e : Conditions} (h₁ : c.Within d) (h₂ : d.Within e) :
    c.Within e where
  overdrive := h₂.overdrive ∘ h₁.overdrive
  brokenWord := h₂.brokenWord ∘ h₁.brokenWord
  clash := h₂.clash ∘ h₁.clash
  sendAbandoned := h₂.sendAbandoned ∘ h₁.sendAbandoned
  laneFull := h₂.laneFull ∘ h₁.laneFull
  stuckTone := h₂.stuckTone ∘ h₁.stuckTone
  badTrunkCode := h₂.badTrunkCode ∘ h₁.badTrunkCode

/-! ## What a move keeps -/

/-- A move from `s` to `t` keeps the ranges, lets the outputs follow the view, clears no condition, and leaves alone the settings in force, the Setup Link and the queue of commands. -/
structure Keeps (s t : State) : Prop where
  ranges : InRange s → InRange t
  outputs : OutputsFollowView s → OutputsFollowView t
  conds : s.conds.Within t.conds
  settings : t.settings = s.settings
  link : t.link = s.link
  pending : t.pending = s.pending

theorem Keeps.refl (s : State) : Keeps s s := ⟨id, id, .refl _, rfl, rfl, rfl⟩

theorem Keeps.trans {s t u : State} (h₁ : Keeps s t) (h₂ : Keeps t u) : Keeps s u :=
  ⟨h₂.ranges ∘ h₁.ranges, h₂.outputs ∘ h₁.outputs, h₁.conds.trans h₂.conds,
    h₂.settings.trans h₁.settings, h₂.link.trans h₁.link,
    h₂.pending.trans h₁.pending⟩

theorem Keeps.ite {s t u : State} {c : Prop} [Decidable c] (h₁ : c → Keeps s t)
    (h₂ : ¬c → Keeps s u) : Keeps s (if c then t else u) := by
  split
  · exact h₁ ‹_›
  · exact h₂ ‹_›

/-! ## Moves of one block -/

variable (s : State)

theorem keeps_inbox (es : List Event) : Keeps s { s with inbox := es } :=
  ⟨fun h => { h with }, id, .refl _, rfl, rfl, rfl⟩

theorem keeps_emit (e : Event) : Keeps s (emit e s) := keeps_inbox s _

theorem keeps_engine (e : Engine) (es : List Event)
    (h : EngineInRange s.engine → EngineInRange e) :
    Keeps s { s with engine := e, inbox := es } :=
  ⟨fun r => { r with engine := h r.engine }, id, .refl _, rfl, rfl, rfl⟩

theorem keeps_tx (t : Transmitter) (h : TxInRange s.tx → TxInRange t) : Keeps s { s with tx := t } :=
  ⟨fun r => { r with tx := h r.tx }, id, .refl _, rfl, rfl, rfl⟩

theorem keeps_conds (c : Conditions) (h : s.conds.Within c) : Keeps s { s with conds := c } :=
  ⟨fun r => { r with }, id, h, rfl, rfl, rfl⟩

theorem keeps_setDial (d : DialDecoder) (h : DialInRange s.dial → DialInRange d) :
    Keeps s (setDial d s) :=
  ⟨fun r => { r with dial := h r.dial }, id, .refl _, rfl, rfl, rfl⟩

theorem keeps_answer (a : AnswerUnit)
    (h : InRange s → ∀ c ∈ a.slot, CallInRange (cycleLimit s) c) : Keeps s { s with answer := a } :=
  ⟨fun r => { r with slot := h r }, id, .refl _, rfl, rfl, rfl⟩

theorem keeps_setSlot_none : Keeps s (setSlot none s) :=
  keeps_answer s _ fun _ => by simp

theorem keeps_request (q : RequestUnit)
    (h : InRange s → ∀ r ∈ q.record, RequestInRange r) : Keeps s { s with request := q } :=
  ⟨fun r => { r with record := h r }, id, .refl _, rfl, rfl, rfl⟩

theorem keeps_setRecord_none : Keeps s (setRecord none s) :=
  keeps_request s _ fun _ => by simp

theorem keeps_setPendingBreak (b : Option Code) : Keeps s (setPendingBreak b s) :=
  keeps_request s _ fun r => r.record

/-! ## The Tone Engine -/

theorem keeps_setVoice (v : ScriptVoice) (c : CadenceVoice)
    (h : ScriptVoiceInRange (s.engine.voice v) → ScriptVoiceInRange c) : Keeps s (setVoice v c s) :=
  keeps_engine s _ _ fun e => e.setVoice v (h (e.voice v))

theorem keeps_noteReplaced (a : Agent) (c : CadenceVoice) : Keeps s (noteReplaced a c s) := by
  unfold noteReplaced
  split
  · exact .ite (fun _ => .refl s) fun _ => keeps_emit s _
  · exact .refl s

theorem keeps_noteIdle (v : ScriptVoice) : Keeps s (noteIdle v s) := by
  cases v
  · exact .refl s
  · exact keeps_emit s _

theorem keeps_start (a : Agent) (sc : Script) : Keeps s (start a sc s) :=
  .ite (fun _ => keeps_emit s _) fun _ =>
    (keeps_setVoice s _ _ fun h => scriptVoiceInRange_loaded h sc a).trans (keeps_noteReplaced _ _ _)

theorem keeps_idled (v : ScriptVoice) : Keeps s (setVoice v (s.engine.voice v).idled s) :=
  keeps_setVoice s _ _ scriptVoiceInRange_idled

theorem keeps_stopNow (a : Agent) (v : ScriptVoice) : Keeps s (stopNow a v s) :=
  .ite (fun _ => (keeps_idled s v).trans (keeps_noteIdle _ v)) fun _ => .refl s

theorem keeps_stopAtCycle (a : Agent) (v : ScriptVoice) : Keeps s (stopAtCycle a v s) :=
  .ite (fun _ => keeps_setVoice s _ _ id) fun _ => .refl s

theorem keeps_engineOffHook : Keeps s (engineOffHook s) :=
  keeps_engine s _ _ fun e => { e with }

theorem keeps_engineHangUp : Keeps s (engineHangUp s) := by
  have down : Keeps s { s with engine.offHook := false } := keeps_engine s _ _ fun e => { e with }
  have idled := down.trans (keeps_idled _ .earpiece)
  unfold engineHangUp
  simp only
  split
  · exact idled.trans (keeps_emit _ _)
  · exact idled
  · exact down

theorem keeps_endScript (v : ScriptVoice) : Keeps s (endScript v s) := by
  refine (keeps_idled s v).trans (Keeps.trans ?_ (keeps_noteIdle _ v))
  split
  · exact keeps_emit _ _
  · exact .refl _

theorem keeps_lineHold (p : Pair) : Keeps s (lineHold p s) :=
  .ite (fun _ => keeps_engine s _ _ fun e =>
    { e with v0 := lineVoiceInRange_held _ s, v1 := lineVoiceInRange_held _ s }) fun _ => .refl s

theorem keeps_silenceLine : Keeps s (silenceLine s) := keeps_engine s _ _ fun e => { e with }

theorem keeps_lineGap : Keeps s (lineGap s) := .ite (fun _ => keeps_silenceLine s) fun _ => .refl s

theorem keeps_lineStop : Keeps s (lineStop s) := .ite (fun _ => keeps_silenceLine s) fun _ => .refl s

end Sys2Proof.Machine
end

section
/-! The Word Transmitter keeps its lanes in range (R71 to R82). -/

namespace Sys2Proof.Machine

variable (s : State)

/-! ## Lanes -/

@[simp] theorem setEntries_entries_self (t : Transmitter) (l : Lane) (es : List Entry) :
    (t.setEntries l es).entries l = es := by
  cases l <;> rfl

@[simp] theorem setEntries_inFlight (t : Transmitter) (l m : Lane) (es : List Entry) :
    (t.setEntries l es).inFlight m = t.inFlight m := by
  cases l <;> rfl

theorem setEntries_entries_ne (t : Transmitter) {l m : Lane} (h : m ≠ l) (es : List Entry) :
    (t.setEntries l es).entries m = t.entries m := by
  cases l <;> cases m <;> first | rfl | exact absurd rfl h

theorem setEntries_queued_ne (t : Transmitter) {l m : Lane} (h : m ≠ l) (es : List Entry) :
    (t.setEntries l es).queued m = t.queued m := by
  simp [Transmitter.queued, setEntries_entries_ne t h]

/-- R71: the entry in flight, if any, and the queued entries make up the lane. -/
theorem flying_append_queued (t : Transmitter) (l : Lane) :
    t.flying l ++ t.queued l = t.entries l := by
  unfold Transmitter.flying Transmitter.queued
  split
  · exact List.take_append_drop 1 _
  · rfl

/-- Queued entries replaced by others: what is queued then is among them. -/
theorem queued_setEntries_subset (t : Transmitter) (l : Lane) (q : List Entry) :
    (t.setEntries l (t.flying l ++ q)).queued l ⊆ q := by
  unfold Transmitter.queued Transmitter.flying
  simp only [setEntries_inFlight, setEntries_entries_self]
  split
  · cases t.entries l with
    | nil => simpa using List.drop_subset 1 q
    | cons e es => simp
  · simp

/-- What the counts of a lane's entries may be. -/
def EntryInRange (l : Lane) (e : Entry) : Prop := e.attempts ≤ 5 ∧ e.wait ≤ l.waitLimit

/-- R71: what the counts of a queued entry may be. -/
def QueuedInRange (l : Lane) (e : Entry) : Prop := e.attempts ≤ 4 ∧ e.wait ≤ l.waitLimit

theorem QueuedInRange.entry {l : Lane} {e : Entry} (h : QueuedInRange l e) : EntryInRange l e :=
  ⟨h.1.trans (by decide), h.2⟩

theorem LaneInRange.queuedInRange {t : Transmitter} {l : Lane} (h : LaneInRange t l) :
    ∀ e ∈ t.queued l, QueuedInRange l e := fun e he =>
  ⟨h.queued e he, (h.entries e (by
    rw [← flying_append_queued]; exact List.mem_append_right _ he)).2⟩

/-- A lane whose queued entries are replaced stays in range. -/
theorem TxInRange.setQueued {t : Transmitter} (h : TxInRange t) (l : Lane) {q : List Entry}
    (depth : (t.flying l).length + q.length ≤ l.capacity) (ok : ∀ e ∈ q, QueuedInRange l e) :
    TxInRange (t.setEntries l (t.flying l ++ q)) where
  quiet := by simpa using h.quiet
  backOff := by cases l <;> exact h.backOff
  lanes m := by
    by_cases hm : m = l
    · subst hm
      refine ⟨by simpa using depth, ?_, fun e he => (ok e (queued_setEntries_subset t m q he)).1⟩
      simp only [setEntries_entries_self, List.mem_append]
      rintro e (he | he)
      · exact (h.lanes m).entries e (by
          rw [← flying_append_queued]; exact List.mem_append_left _ he)
      · exact (ok e he).entry
    · obtain ⟨depth, entries, queued⟩ := h.lanes m
      exact ⟨by rwa [setEntries_entries_ne t hm], by rwa [setEntries_entries_ne t hm],
        by rwa [setEntries_queued_ne t hm]⟩

/-- The entries kept or replaced are no more than those queued: the lane stays within its depth. -/
theorem TxInRange.depth_of_le {t : Transmitter} (h : TxInRange t) (l : Lane) {q : List Entry}
    (le : q.length ≤ (t.queued l).length) : (t.flying l).length + q.length ≤ l.capacity := by
  have depth := (h.lanes l).depth
  rw [← flying_append_queued, List.length_append] at depth
  omega

/-! ## QUEUE and WITHDRAW -/

theorem promote_length (es : List Entry) : (promote es).length = es.length := by
  cases es <;> rfl

theorem mem_promote {es : List Entry} {P : Entry → Prop} (h : ∀ e ∈ es, P e)
    (zero : ∀ e, P e → P { e with wait := 0 }) : ∀ e ∈ promote es, P e := by
  cases es with
  | nil => exact h
  | cons x xs =>
    simp only [promote, List.mem_cons, forall_eq_or_imp] at h ⊢
    exact ⟨zero x h.1, h.2⟩

theorem queuedInRange_zero (l : Lane) (e : Entry) (h : QueuedInRange l e) :
    QueuedInRange l { e with wait := 0 } := ⟨h.1, Nat.zero_le _⟩

theorem keepEntries_length (keep : Entry → Bool) (es : List Entry) :
    (keepEntries keep es).length ≤ es.length := by
  cases es with
  | nil => exact Nat.le_refl 0
  | cons e es =>
    have le := List.length_filter_le keep es
    simp only [keepEntries]
    split
    · simpa using le
    · rw [promote_length, List.length_cons]; omega

theorem mem_keepEntries {l : Lane} (keep : Entry → Bool) {es : List Entry}
    (h : ∀ e ∈ es, QueuedInRange l e) : ∀ e ∈ keepEntries keep es, QueuedInRange l e := by
  cases es with
  | nil => exact h
  | cons x xs =>
    simp only [List.mem_cons, forall_eq_or_imp] at h
    have rest : ∀ e ∈ xs.filter keep, QueuedInRange l e := fun e he => h.2 e (List.mem_of_mem_filter he)
    simp only [keepEntries]
    split
    · simpa using ⟨h.1, fun e he _ => h.2 e he⟩
    · exact mem_promote rest (queuedInRange_zero l)

theorem supersede_inRange {l : Lane} (w : LineWord) (o : Agent) {q es : List Entry} {old : Entry}
    (h : ∀ e ∈ q, QueuedInRange l e) (eq : supersede w o q = some (old, es)) :
    es.length = q.length ∧ ∀ e ∈ es, QueuedInRange l e := by
  induction q generalizing es with
  | nil => cases eq
  | cons x xs ih =>
    simp only [List.mem_cons, forall_eq_or_imp] at h
    unfold supersede at eq
    split at eq
    · cases eq
      exact ⟨rfl, by simpa using ⟨h.1, h.2⟩⟩
    · obtain ⟨⟨_, ys⟩, found, eq⟩ := Option.map_eq_some_iff.mp eq
      cases eq
      obtain ⟨len, ok⟩ := ih h.2 found
      exact ⟨by simpa using len, by simpa using ⟨h.1, ok⟩⟩

theorem keeps_setQueued (l : Lane) (q : List Entry)
    (depth : TxInRange s.tx → (s.tx.flying l).length + q.length ≤ l.capacity)
    (ok : TxInRange s.tx → ∀ e ∈ q, QueuedInRange l e) :
    Keeps s (setEntries l (s.tx.flying l ++ q) s) :=
  keeps_tx s _ fun h => h.setQueued l (depth h) (ok h)

theorem keeps_keepQueued (l : Lane) (keep : Entry → Bool) :
    Keeps s (setEntries l (s.tx.flying l ++ keepEntries keep (s.tx.queued l)) s) :=
  keeps_setQueued s l _ (fun h => h.depth_of_le l (keepEntries_length keep _))
    fun h => mem_keepEntries keep (h.lanes l).queuedInRange

theorem keeps_noteDisplaced (o : Agent) (e : Entry) : Keeps s (noteDisplaced o e s) :=
  .ite (fun _ => .refl s) fun _ => keeps_emit s _

theorem keeps_noteAll (o : Agent) (es : List Entry) :
    Keeps s (es.foldl (fun t e => noteDisplaced o e t) s) := by
  induction es generalizing s with
  | nil => exact .refl s
  | cons e es ih => exact (keeps_noteDisplaced s o e).trans (ih _)

theorem keeps_removeRequests (o : Agent) (dst : Code) : Keeps s (removeRequests o dst s) :=
  (keeps_keepQueued s .request _).trans (keeps_noteAll _ o _)

theorem keeps_afterPlacing (o : Agent) (w : LineWord) : Keeps s (afterPlacing o w s) :=
  .ite (fun _ => keeps_removeRequests s o w.dst) fun _ => .refl s

theorem keeps_setLaneFull : Keeps s (setLaneFull s) :=
  keeps_conds s _ { Conditions.Within.refl s.conds with laneFull := fun _ => rfl }

theorem keeps_setSendAbandoned : Keeps s (setSendAbandoned s) :=
  keeps_conds s _ { Conditions.Within.refl s.conds with sendAbandoned := fun _ => rfl }

theorem keeps_place (o : Agent) (w : LineWord) : Keeps s (place o w s) := by
  unfold place
  simp only
  split
  · next old es found =>
    have ok := fun h : TxInRange s.tx => supersede_inRange w o (h.lanes w.kind.lane).queuedInRange found
    refine ((keeps_setQueued s _ es (fun h => h.depth_of_le _ (ok h).1.le) fun h => (ok h).2).trans
      (keeps_noteDisplaced _ o old)).trans (keeps_afterPlacing _ o w)
  · split
    · next room =>
      rw [← flying_append_queued, List.append_assoc]
      refine (keeps_setQueued s _ _ (fun _ => ?_) fun h => ?_).trans (keeps_afterPlacing _ o w)
      · rw [← flying_append_queued, List.length_append] at room
        rw [List.length_append, List.length_singleton]; omega
      · simp only [List.mem_append, List.mem_singleton]
        rintro e (he | rfl)
        · exact (h.lanes _).queuedInRange e he
        · exact ⟨Nat.zero_le _, Nat.zero_le _⟩
    · exact (keeps_setLaneFull s).trans (keeps_emit _ _)

theorem keeps_queue (o : Agent) (k : Kind) (dst : Code) (arg : Option Code) :
    Keeps s (queue o k dst arg s) := by
  unfold queue
  split
  · exact .refl s
  · exact .ite (fun _ => .refl s) fun _ => keeps_place s o _

theorem keeps_withdraw (o : Agent) (dst : Code) : Keeps s (withdraw o dst s) :=
  (keeps_keepQueued s .prompt _).trans (keeps_keepQueued _ .request _)

end Sys2Proof.Machine
end

section
/-! The Line View keeps the ranges and its two outputs (R87 to R102). -/

namespace Sys2Proof.Machine

variable (s : State)

/-! ## The outputs follow the view -/

@[simp] theorem isFree_iff (r : ViewRecord) : r.isFree = true ↔ r = .free := by
  cases r <;> simp [ViewRecord.isFree]

@[simp] theorem isFree_eq_false_iff (r : ViewRecord) : r.isFree = false ↔ r ≠ .free := by
  rw [ne_eq, ← isFree_iff, Bool.not_eq_true]

/-- R88: the view is held by others. -/
theorem heldByOthers_iff :
    heldByOthers s = true ↔ s.view.record ≠ .free ∧ isInvolved s = false := by
  simp [heldByOthers]

/-- R100: when PRIVACY is asserted. -/
theorem privacyTerm_iff :
    privacyTerm s = true ↔
      s.view.offHook = true ∧ s.view.record ≠ .free ∧ isInvolved s = false := by
  simp [privacyTerm, heldByOthers_iff]

/-- R101: when TRUNK_CONNECT is closed. -/
theorem trunkConnectTerm_iff :
    trunkConnectTerm s = true ↔
      ownCode s = some 15 ∧ isParty s = true ∧ ∃ a b k, s.view.record = .held a b k := by
  unfold trunkConnectTerm isTrunkEnd
  cases s.view.record <;> simp

theorem privacyTone_voice (was now : Bool) : OnlyParts voiceParts s (privacyTone was now s) := by
  unfold privacyTone
  exact only_of_ite (voice_start s _ _) (only_of_ite (voice_stopNow s _ _) (only_refl _ s))

theorem refreshPrivacy_out :
    (refreshPrivacy s).out = { s.out with privacy := privacyTerm s } :=
  privacyTone_voice _ _ _ .out (by decide)

theorem refreshPrivacy_view : (refreshPrivacy s).view = s.view :=
  privacyTone_voice _ _ _ .view (by decide)

theorem refreshPrivacy_settings : (refreshPrivacy s).settings = s.settings :=
  privacyTone_voice _ _ _ .settings (by decide)

@[simp] theorem refreshOutputs_settings : (refreshOutputs s).settings = s.settings :=
  refreshPrivacy_settings s

@[simp] theorem refreshOutputs_link : (refreshOutputs s).link = s.link :=
  privacyTone_voice _ _ _ .link (by decide)

@[simp] theorem refreshOutputs_pending : (refreshOutputs s).pending = s.pending :=
  privacyTone_voice _ _ _ .pending (by decide)

/-- The view's terms depend on the settings in force and the view alone. -/
theorem isParty_congr {s t : State} (settings : t.settings = s.settings) (view : t.view = s.view) :
    isParty t = isParty s := by
  simp only [isParty, ownCode, settings, view]

theorem isInvolved_congr {s t : State} (settings : t.settings = s.settings) (view : t.view = s.view) :
    isInvolved t = isInvolved s := by
  simp only [isInvolved, ownCode, settings, view]

theorem trunkConnectTerm_congr {s t : State} (settings : t.settings = s.settings)
    (view : t.view = s.view) : trunkConnectTerm t = trunkConnectTerm s := by
  simp only [trunkConnectTerm, isTrunkEnd, ownCode, isParty_congr settings view, settings, view]
  cases s.view.record <;> rfl

theorem refreshOutputs_out :
    (refreshOutputs s).out =
      { s.out with privacy := privacyTerm s, trunkConnect := trunkConnectTerm s } := by
  have term : trunkConnectTerm (refreshPrivacy s) = trunkConnectTerm s :=
    trunkConnectTerm_congr (refreshPrivacy_settings s) (refreshPrivacy_view s)
  simp [refreshOutputs, refreshTrunkConnect, refreshPrivacy_out, term]

/-- R100, R101: after a refresh both outputs stand as the view and the hook say. -/
theorem outputsFollowView_refreshOutputs : OutputsFollowView (refreshOutputs s) := by
  have involved := isInvolved_congr (refreshOutputs_settings s) (refreshOutputs_view s)
  have party := isParty_congr (refreshOutputs_settings s) (refreshOutputs_view s)
  have own : ownCode (refreshOutputs s) = ownCode s := by simp [ownCode]
  constructor
  · rw [refreshOutputs_out, refreshOutputs_view, involved]
    exact privacyTerm_iff s
  · rw [refreshOutputs_out, refreshOutputs_view, party, own]
    exact trunkConnectTerm_iff s

/-! ## What a refresh keeps -/

theorem keeps_privacyTone (was now : Bool) : Keeps s (privacyTone was now s) :=
  .ite (fun _ => keeps_start s _ _) fun _ => .ite (fun _ => keeps_stopNow s _ _) fun _ => .refl s

/-- The view or its hook item changes, and the outputs are refreshed. -/
theorem keeps_refreshOutputs {s t : State} (ranges : InRange s → InRange t)
    (conds : s.conds.Within t.conds) (settings : t.settings = s.settings)
    (link : t.link = s.link) (pending : t.pending = s.pending) : Keeps s (refreshOutputs t) where
  ranges h :=
    { (keeps_privacyTone { t with out.privacy := privacyTerm t } t.out.privacy (privacyTerm t)).ranges
        { ranges h with } with }
  outputs _ := outputsFollowView_refreshOutputs t
  conds := conds.trans
    (keeps_privacyTone { t with out.privacy := privacyTerm t } t.out.privacy (privacyTerm t)).conds
  settings := by rw [refreshOutputs_settings, settings]
  link := by rw [refreshOutputs_link, link]
  pending := by rw [refreshOutputs_pending, pending]

/-- The view's items but the record and the hook item. -/
theorem keeps_viewItems (n : Nat) (rings : List RingEntry) (p : Option PendingClear)
    (h : s.view.idle ≤ 50 → n ≤ 50) :
    Keeps s { s with view := { s.view with idle := n, rings := rings, pendingClear := p } } :=
  ⟨fun r => { r with idle := h r.idle }, id, .refl _, rfl, rfl, rfl⟩

theorem keeps_noteHeld (b : Bool) : Keeps s (noteHeld b s) :=
  .ite (fun _ => (keeps_emit s _).trans (keeps_emit _ _)) fun _ => .refl s

theorem keeps_setView (r : ViewRecord) : Keeps s (setView r s) :=
  keeps_refreshOutputs
    (fun h => (keeps_noteHeld { s with view.record := r } _).ranges { h with })
    (keeps_noteHeld { s with view.record := r } _).conds
    (keeps_noteHeld { s with view.record := r } _).settings
    (keeps_noteHeld { s with view.record := r } _).link
    (keeps_noteHeld { s with view.record := r } _).pending

/-! ## The view's operations -/

theorem keeps_settlePending (dst : Code) : Keeps s (settlePending dst s) := by
  have settled := keeps_viewItems s s.view.idle s.view.rings none id
  unfold settlePending
  split
  · exact .refl s
  · exact .ite (fun _ => .ite (fun _ => settled.trans (keeps_setView _ _)) fun _ => settled)
      fun _ => .refl s

theorem keeps_viewOwnClear : Keeps s (viewOwnClear s) := by
  unfold viewOwnClear
  split
  · split
    · exact (keeps_queue s _ _ _ _).trans (keeps_viewItems _ _ _ _ id)
    · exact .refl s
  · exact .refl s

theorem keeps_viewNotice (w : LineWord) : Keeps s (viewNotice w s) :=
  .ite (fun _ => keeps_settlePending s _) fun _ => .refl s

theorem keeps_takeAnswer (x y : Code) (k : CallClass) : Keeps s (takeAnswer x y k s) :=
  (keeps_viewItems s 0 s.view.rings s.view.pendingClear fun _ => Nat.zero_le _).trans
    (keeps_setView _ _)

theorem keeps_viewAnswer (x y : Code) : Keeps s (viewAnswer x y s) := by
  have taken := fun k => keeps_takeAnswer s x y k
  unfold viewAnswer
  simp only
  split
  · exact taken _
  · exact .ite (fun _ => .refl s) fun _ => .ite (fun _ => .refl s) fun _ => taken _
  · exact .ite (fun _ => taken _) fun _ => .ite (fun _ => .refl s) fun _ =>
      .ite (fun _ => .refl s) fun _ => taken _

theorem keeps_viewClear (p q : Code) (own : Bool) : Keeps s (viewClear p q own s) := by
  have freed : Keeps s (if clearFrees s.view.record p q then freeView s else s) :=
    .ite (fun _ => keeps_setView s _) fun _ => .refl s
  exact .ite (fun _ => freed.trans (keeps_settlePending _ _)) fun _ => freed

theorem keeps_viewBreak (k t : Code) : Keeps s (viewBreak k t s) := by
  have broken : Keeps s
      (setView (.broken k t s.view.record.parties)
        (if s.view.record.isFree then { s with view.idle := 0 } else s)) :=
    (Keeps.ite (fun _ => keeps_viewItems s 0 s.view.rings s.view.pendingClear fun _ => Nat.zero_le _)
      fun _ => .refl s).trans (keeps_setView _ _)
  exact .ite (fun _ => broken.trans (keeps_start _ _ _)) fun _ => broken

theorem keeps_viewAlert (own : Bool) : Keeps s (viewAlert own s) :=
  .ite (fun _ => .refl s) fun _ => keeps_start s _ _

theorem keeps_forgetRing (w : LineWord) : Keeps s (forgetRing w s) := keeps_viewItems s _ _ _ id

theorem keeps_viewWord (own : Bool) (w : LineWord) : Keeps s (viewWord own w s) := by
  unfold viewWord
  split
  · exact keeps_viewItems s _ _ _ id
  · exact (keeps_viewAnswer s _ _).trans (keeps_forgetRing _ w)
  · exact keeps_forgetRing s w
  · exact (keeps_viewClear s _ _ _).trans (keeps_forgetRing _ w)
  · exact .ite (fun _ => keeps_viewAlert s _) fun _ => keeps_viewBreak s _ _
  · exact .refl s
  · exact .refl s

theorem keeps_viewReading (loaded : Bool) : Keeps s (viewReading loaded s) :=
  keeps_viewItems s _ _ _ fun _ => by split <;> omega

theorem keeps_viewOffHook : Keeps s (viewOffHook s) :=
  keeps_refreshOutputs (fun h => { h with }) (.refl _) rfl rfl rfl

theorem keeps_viewHangUp : Keeps s (viewHangUp s) :=
  (keeps_refreshOutputs (s := s) (t := { s with view.offHook := false }) (fun h => { h with })
    (.refl _) rfl rfl rfl).trans (keeps_viewOwnClear _)

end Sys2Proof.Machine
end

section
/-! What queueing, withdrawing and sounding leave alone, field by field. -/

namespace Sys2Proof.Machine

variable (s : State)

section Queue

variable (o : Agent) (k : Kind) (dst : Code) (arg : Option Code)

@[simp] theorem queue_settings : (queue o k dst arg s).settings = s.settings :=
  send_queue s o k dst arg .settings (by decide)

@[simp] theorem queue_link : (queue o k dst arg s).link = s.link :=
  send_queue s o k dst arg .link (by decide)

@[simp] theorem queue_engine : (queue o k dst arg s).engine = s.engine :=
  send_queue s o k dst arg .engine (by decide)

@[simp] theorem queue_view : (queue o k dst arg s).view = s.view :=
  send_queue s o k dst arg .view (by decide)

@[simp] theorem queue_answer : (queue o k dst arg s).answer = s.answer :=
  send_queue s o k dst arg .answer (by decide)

@[simp] theorem queue_request : (queue o k dst arg s).request = s.request :=
  send_queue s o k dst arg .request (by decide)

@[simp] theorem queue_dial : (queue o k dst arg s).dial = s.dial :=
  send_queue s o k dst arg .dial (by decide)

@[simp] theorem queue_trunk : (queue o k dst arg s).trunk = s.trunk :=
  send_queue s o k dst arg .trunk (by decide)

end Queue

section Withdraw

variable (o : Agent) (dst : Code)

@[simp] theorem withdraw_settings : (withdraw o dst s).settings = s.settings := rfl

@[simp] theorem withdraw_link : (withdraw o dst s).link = s.link := rfl

@[simp] theorem withdraw_engine : (withdraw o dst s).engine = s.engine := rfl

@[simp] theorem withdraw_view : (withdraw o dst s).view = s.view := rfl

@[simp] theorem withdraw_answer : (withdraw o dst s).answer = s.answer := rfl

@[simp] theorem withdraw_request : (withdraw o dst s).request = s.request := rfl

@[simp] theorem withdraw_inbox : (withdraw o dst s).inbox = s.inbox := rfl

end Withdraw

section Voice

variable {s} {t : State} (h : OnlyParts voiceParts s t)
include h

theorem settings_eq_of_voice : t.settings = s.settings := h .settings (by decide)

theorem link_eq_of_voice : t.link = s.link := h .link (by decide)

theorem tx_eq_of_voice : t.tx = s.tx := h .tx (by decide)

theorem answer_eq_of_voice : t.answer = s.answer := h .answer (by decide)

theorem request_eq_of_voice : t.request = s.request := h .request (by decide)

theorem dial_eq_of_voice : t.dial = s.dial := h .dial (by decide)

end Voice

section Start

variable (a : Agent) (sc : Script)

@[simp] theorem start_settings : (start a sc s).settings = s.settings :=
  settings_eq_of_voice (voice_start s a sc)

@[simp] theorem start_link : (start a sc s).link = s.link := link_eq_of_voice (voice_start s a sc)

@[simp] theorem start_tx : (start a sc s).tx = s.tx := tx_eq_of_voice (voice_start s a sc)

@[simp] theorem start_view : (start a sc s).view = s.view := view_eq_of_voice (voice_start s a sc)

@[simp] theorem start_answer : (start a sc s).answer = s.answer :=
  answer_eq_of_voice (voice_start s a sc)

@[simp] theorem start_request : (start a sc s).request = s.request :=
  request_eq_of_voice (voice_start s a sc)

@[simp] theorem start_dial : (start a sc s).dial = s.dial := dial_eq_of_voice (voice_start s a sc)

end Start

section StopNow

variable (a : Agent) (v : ScriptVoice)

@[simp] theorem stopNow_settings : (stopNow a v s).settings = s.settings :=
  settings_eq_of_voice (voice_stopNow s a v)

@[simp] theorem stopNow_link : (stopNow a v s).link = s.link :=
  link_eq_of_voice (voice_stopNow s a v)

@[simp] theorem stopNow_tx : (stopNow a v s).tx = s.tx := tx_eq_of_voice (voice_stopNow s a v)

@[simp] theorem stopNow_view : (stopNow a v s).view = s.view :=
  view_eq_of_voice (voice_stopNow s a v)

@[simp] theorem stopNow_answer : (stopNow a v s).answer = s.answer :=
  answer_eq_of_voice (voice_stopNow s a v)

@[simp] theorem stopNow_request : (stopNow a v s).request = s.request :=
  request_eq_of_voice (voice_stopNow s a v)

@[simp] theorem stopNow_dial : (stopNow a v s).dial = s.dial :=
  dial_eq_of_voice (voice_stopNow s a v)

end StopNow

end Sys2Proof.Machine
end

section
/-! The Request Unit keeps the ranges (R131 to R147). -/

namespace Sys2Proof.Machine

variable (s : State)

/-- A record put in place after other moves: it is in range by what was so before them. -/
theorem Keeps.setRecord {s t : State} (h : Keeps s t) (r : Request)
    (ok : InRange s → RequestInRange r) : Keeps s (setRecord (some r) t) where
  ranges i := { h.ranges i with record := fun x hx => by cases hx; exact ok i }
  outputs := h.outputs
  conds := h.conds
  settings := h.settings
  link := h.link
  pending := h.pending

theorem keeps_setRecord (r : Request) (ok : InRange s → RequestInRange r) :
    Keeps s (setRecord (some r) s) := (Keeps.refl s).setRecord r ok

/-- R131: the record present is in range. -/
theorem InRange.recordOf {s : State} (h : InRange s) {r : Request} (hr : s.request.record = some r) :
    RequestInRange r := h.record r hr

/-- R137: a word queued for the record. -/
theorem requestInRange_sendingWait {r : Request} (h : RequestInRange r) :
    RequestInRange r.sendingWait := ⟨h.1, h.2.1, Nat.zero_le _⟩

/-- R142: a record entering FAILED. -/
theorem requestInRange_failed {r : Request} (h : RequestInRange r) (why : FailReason) (off : Bool) :
    RequestInRange (r.failed why off) := by
  refine ⟨h.1, Nat.zero_le _, ?_⟩
  simp only [Request.failed]
  split <;> omega

theorem keeps_failRequest (r : Request) (why : FailReason) (c : Bool)
    (h : InRange s → RequestInRange r) : Keeps s (failRequest r why c s) := by
  have record := keeps_setRecord s (r.failed why s.request.offHook) fun i =>
    requestInRange_failed (h i) why _
  have words : ∀ u, Keeps u (withdrawOrClear c r.called u) := fun u =>
    .ite (fun _ => keeps_queue u _ _ _ _) fun _ => keeps_withdraw u _ _
  have quiet : ∀ u, Keeps u (if r.state = .reverting then stopNow .requestUnit .ringer u else u) :=
    fun u => .ite (fun _ => keeps_stopNow u _ _) fun _ => .refl u
  have tone : ∀ u, Keeps u (failureTone why u) := fun u =>
    .ite (fun _ => keeps_start u _ _) fun _ => .refl u
  exact ((record.trans (words _)).trans (quiet _)).trans (tone _)

theorem keeps_ringFor (x : Code) (k : CallClass) (away : Bool) : Keeps s (ringFor x k away s) :=
  (keeps_queue s _ _ _ _).setRecord _ fun _ => by simp [RequestInRange]

theorem keeps_dialledCall (u : Bool) (x : Code) : Keeps s (dialledCall u x s) :=
  .ite (fun _ => .ite
    (fun _ => (keeps_queue s _ _ _ _).trans ((keeps_setPendingBreak _ _).trans (keeps_start _ _ _)))
    fun _ => (keeps_ringFor s _ _ _).trans (keeps_start _ _ _)) fun _ => .refl s

theorem keeps_breakSent (x : Code) : Keeps s (breakSent x s) :=
  .ite (fun _ => (keeps_setPendingBreak s none).trans (keeps_ringFor _ _ _ _))
    fun _ => (keeps_setPendingBreak s none).trans (keeps_stopNow _ _ _)

theorem keeps_requestSent (st : RequestState) (x : Code) : Keeps s (requestSent st x s) := by
  unfold requestSent
  split
  · next r hr =>
    refine .ite (fun _ => keeps_setRecord s _ fun i => ?_) fun _ => .refl s
    obtain ⟨sends, misses, -⟩ := i.recordOf hr
    exact ⟨sends, misses, by simp [Request.replyWait]⟩
  · exact .refl s

theorem keeps_ruSent (w : LineWord) : Keeps s (ruSent w s) := by
  unfold ruSent
  split
  · exact .ite (fun _ => keeps_start s _ _) fun _ =>
      .ite (fun _ => keeps_breakSent s _) fun _ => .refl s
  · exact keeps_requestSent s _ _
  · exact keeps_requestSent s _ _
  all_goals exact .refl s

theorem keeps_missedPoll (r : Request) (h : InRange s → RequestInRange r) :
    Keeps s (missedPoll r s) :=
  .ite (fun few => (keeps_queue s _ _ _ _).setRecord _ fun i => ⟨(h i).1, by
      simp only; omega, Nat.zero_le _⟩)
    fun _ => keeps_failRequest s r _ _ h

theorem keeps_breakAbandoned (x : Code) : Keeps s (breakAbandoned x s) :=
  (keeps_setPendingBreak s none).trans (keeps_failRequest _ _ _ _ fun _ => by simp [RequestInRange])

theorem keeps_ringAbandoned (x : Code) : Keeps s (ringAbandoned x s) := by
  unfold ringAbandoned
  split
  · next r hr => exact .ite (fun _ => keeps_failRequest s r _ _ (·.recordOf hr)) fun _ => .refl s
  · exact .refl s

theorem keeps_pollAbandoned (x : Code) : Keeps s (pollAbandoned x s) := by
  unfold pollAbandoned
  split
  · next r hr => exact .ite (fun _ => keeps_missedPoll s r (·.recordOf hr)) fun _ => .refl s
  · exact .refl s

theorem keeps_ruAbandoned (w : LineWord) : Keeps s (ruAbandoned w s) := by
  unfold ruAbandoned
  split
  · exact .ite (fun _ => keeps_start s _ _) fun _ =>
      .ite (fun _ => keeps_breakAbandoned s _) fun _ => .refl s
  · exact keeps_ringAbandoned s _
  · exact keeps_pollAbandoned s _
  all_goals exact .refl s

theorem keeps_dropRequest (x : Code) : Keeps s (dropRequest x s) :=
  ((keeps_withdraw s _ _).trans (keeps_stopNow _ _ _)).trans (keeps_setRecord_none _)

theorem keeps_holdTaken (r : Request) (h : InRange s → RequestInRange r) :
    Keeps s (holdTaken r s) := by
  have waiting := keeps_setRecord s
    { r with state := .waiting, misses := 0, wait := .delay, timer := 100 }
    fun i => ⟨(h i).1, Nat.zero_le _, by simp⟩
  have told := waiting.trans (keeps_withdraw _ .requestUnit r.called)
  exact .ite (fun _ => told.trans (keeps_start _ _ _)) fun _ => told

/-- R137: the revert wait of every setting. -/
theorem revert_le (h : InRange s) : 250 * (s.settings.map (·.revert)).getD 6 ≤ 3000 := by
  cases hs : s.settings with
  | none => decide
  | some v =>
    obtain ⟨-, -, -, -, -, -, -, revert⟩ := h.settings v hs
    simp only [Option.map_some, Option.getD_some]; omega

theorem keeps_beginRevert (r : Request) (h : InRange s → RequestInRange r) :
    Keeps s (beginRevert r s) :=
  Keeps.trans
    (keeps_setRecord s
      { r with
        state := .reverting, misses := 0, away := false, relifted := false, wait := .revert
        timer := 250 * (s.settings.map (·.revert)).getD 6 }
      fun i => ⟨(h i).1, Nat.zero_le _, revert_le s i⟩)
    (keeps_start _ _ _)

theorem keeps_answerTaken (r : Request) (h : s.request.record = some r) :
    Keeps s (answerTaken r s) := by
  have told := keeps_withdraw s .requestUnit r.called
  exact .ite (fun _ => told.trans (keeps_setRecord_none _)) fun _ =>
    .ite (fun _ => told.trans ((keeps_setRecord_none _).trans (keeps_stopNow _ _ _)))
      fun _ => told.trans (keeps_beginRevert _ r (·.recordOf h))

theorem keeps_replyTaken (r : Request) (w : LineWord) (h : s.request.record = some r) :
    Keeps s (replyTaken r w s) := by
  have failed := fun why => keeps_failRequest s r why false (·.recordOf h)
  unfold replyTaken
  split
  · exact keeps_holdTaken s r (·.recordOf h)
  · exact .ite (fun _ => keeps_dropRequest s _) fun _ => failed _
  · exact failed _
  · exact keeps_answerTaken s r h
  all_goals exact .refl s

theorem keeps_ruWord (w : LineWord) : Keeps s (ruWord w s) := by
  unfold ruWord
  split
  · exact .refl s
  · next r hr =>
    refine .ite (fun _ => ?_) fun _ => .refl s
    split
    · exact keeps_replyTaken s r w hr
    · exact keeps_replyTaken s r w hr
    · exact .ite (fun _ => keeps_failRequest s r _ _ (·.recordOf hr)) fun _ => .refl s
    · exact .refl s

theorem keeps_yieldTo (x : Code) : Keeps s (yieldTo x s) := by
  unfold yieldTo
  split
  · exact keeps_dropRequest s x
  · exact .refl s

theorem keeps_ruHeldByOthers : Keeps s (ruHeldByOthers s) := by
  unfold ruHeldByOthers
  split
  · next r hr => exact .ite (fun _ => keeps_failRequest s r _ _ (·.recordOf hr)) fun _ => .refl s
  · exact .refl s

theorem keeps_requestHook (b : Bool) : Keeps s { s with request.offHook := b } :=
  keeps_request s _ fun i => i.record

theorem keeps_abandonRequest (r : Request) : Keeps s (abandonRequest r s) :=
  (keeps_queue s _ _ _ _).trans (keeps_setRecord_none _)

theorem keeps_liftDuring (r : Request) (h : s.request.record = some r) : Keeps s (liftDuring r s) :=
  .ite (fun _ => .ite (fun _ => keeps_abandonRequest s r) fun _ =>
    (keeps_setRecord s { r with relifted := true } fun i => i.recordOf (r := r) h).trans
      (keeps_start _ _ _)) fun _ => .refl s

theorem keeps_liftInRevert (r : Request) (h : s.request.record = some r) :
    Keeps s (liftInRevert r s) :=
  .ite (fun _ => keeps_failRequest s r _ _ (·.recordOf h)) fun _ =>
    (keeps_setRecord_none s).trans (keeps_stopNow _ _ _)

theorem keeps_liftInFailed (r : Request) (why : FailReason) (h : s.request.record = some r) :
    Keeps s (liftInFailed r why s) :=
  .ite (fun _ => (keeps_setRecord s { r with wait := .stopped, timer := 0 } fun i =>
    ⟨(i.recordOf h).1, (i.recordOf h).2.1, Nat.zero_le _⟩).trans (keeps_start _ _ _)) fun _ => .refl s

theorem keeps_ruOffHook : Keeps s (ruOffHook s) := by
  have lifted := keeps_requestHook s true
  unfold ruOffHook
  simp only
  split
  · exact lifted
  · next r hr =>
    refine lifted.trans ?_
    split
    · exact keeps_liftDuring _ r hr
    · exact keeps_liftDuring _ r hr
    · exact keeps_liftInRevert _ r hr
    · exact keeps_liftInFailed _ r _ hr

theorem keeps_cancelBreak : Keeps s (cancelBreak s) := by
  unfold cancelBreak
  split
  · exact (keeps_withdraw s _ _).trans (keeps_setPendingBreak _ _)
  · exact .refl s

theorem keeps_hangUpDuring (r : Request) (h : s.request.record = some r) :
    Keeps s (hangUpDuring r s) :=
  .ite (fun _ => keeps_abandonRequest s r) fun _ =>
    .ite (fun _ => .refl s) fun _ => keeps_setRecord s _ fun i => i.recordOf (r := r) h

theorem keeps_ruHangUp : Keeps s (ruHangUp s) := by
  have down := (keeps_requestHook s false).trans (keeps_cancelBreak _)
  unfold ruHangUp
  simp only
  split
  · exact down
  · next r hr =>
    refine down.trans ?_
    split
    · exact keeps_hangUpDuring _ r hr
    · exact keeps_hangUpDuring _ r hr
    · exact .refl _
    · exact keeps_setRecord _ _ fun i => ⟨(i.recordOf hr).1, (i.recordOf hr).2.1, by simp⟩

theorem keeps_ruFinish (sc : Script) : Keeps s (ruFinish sc s) := by
  unfold ruFinish
  split
  · split
    · exact .ite (fun _ => keeps_start s _ _) fun _ => .refl s
    all_goals exact .refl s
  · exact .refl s

theorem keeps_ruCancel : Keeps s (ruCancel s) := by
  unfold ruCancel
  split
  · exact .ite (fun _ => keeps_abandonRequest s _) fun _ => .refl s
  · exact .refl s

theorem keeps_onRecord (f : Request → State → State)
    (h : ∀ r, s.request.record = some r → Keeps s (f r s)) : Keeps s (onRecord f s) := by
  unfold onRecord
  split
  · next r hr => exact h r hr
  · exact .refl s

theorem keeps_takeRingReply : Keeps s (takeRingReply s) :=
  keeps_onRecord s _ fun r hr => .ite
    (fun few => (keeps_queue s _ _ _ _).setRecord _ fun i =>
      ⟨by simp only; omega, (i.recordOf hr).2.1, Nat.zero_le _⟩)
    fun _ => keeps_failRequest s r _ _ (·.recordOf hr)

theorem keeps_takeDelay : Keeps s (takeDelay s) :=
  keeps_onRecord s _ fun _ hr => (keeps_queue s _ _ _ _).setRecord _ fun i =>
    requestInRange_sendingWait (i.recordOf hr)

theorem keeps_takePollReply : Keeps s (takePollReply s) :=
  keeps_onRecord s _ fun r hr => keeps_missedPoll s r (·.recordOf hr)

theorem keeps_takeRevert : Keeps s (takeRevert s) :=
  keeps_onRecord s _ fun r hr => keeps_failRequest s r _ _ (·.recordOf hr)

theorem keeps_takeShow : Keeps s (takeShow s) := keeps_setRecord_none s

theorem requestInRange_tickBlock {r : Request} (h : RequestInRange r) : RequestInRange r.tickBlock := by
  obtain ⟨sends, misses, timer⟩ := h
  have falls : RequestInRange { r with timer := r.timer - 1 } :=
    ⟨sends, misses, (Nat.sub_le _ _).trans timer⟩
  unfold Request.tickBlock
  split
  all_goals first | exact falls | exact ⟨sends, misses, timer⟩

theorem keeps_tickRecord : Keeps s (tickRecord s) :=
  keeps_request s _ fun i r hr => by
    obtain ⟨r, found, rfl⟩ := Option.map_eq_some_iff.mp hr
    exact requestInRange_tickBlock (i.recordOf found)

end Sys2Proof.Machine
end

section
/-! The Answer Unit keeps the ranges (R104 to R124, R154), and so do the events of a command. -/

namespace Sys2Proof.Machine

variable (s : State)

/-! ## The slot -/

/-- A call put in the slot after other moves: it is in range by what was so before them. -/
theorem Keeps.setSlot {s t : State} (h : Keeps s t) (c : Call)
    (ok : InRange s → CallInRange (cycleLimit s) c) : Keeps s (setSlot (some c) t) where
  ranges i :=
    { h.ranges i with slot := fun x hx => by cases hx; simpa [cycleLimit, h.settings] using ok i }
  outputs := h.outputs
  conds := h.conds
  settings := h.settings
  link := h.link
  pending := h.pending

theorem keeps_setSlot (c : Call) (ok : InRange s → CallInRange (cycleLimit s) c) :
    Keeps s (setSlot (some c) s) := (Keeps.refl s).setSlot c ok

/-- R104: the call in the slot is in range. -/
theorem InRange.callOf {s : State} (h : InRange s) {c : Call} (hc : s.answer.slot = some c) :
    CallInRange (cycleLimit s) c := h.slot c hc

/-- R104, R158: the ring cycle limit is at least 4. -/
theorem InRange.limit_pos {s : State} (h : InRange s) : 0 < cycleLimit s := by
  unfold cycleLimit
  cases hs : s.settings with
  | none => decide
  | some v =>
    obtain ⟨-, limit, -⟩ := h.settings v hs
    simp only [Option.map_some, Option.getD_some]; omega

/-- R106: a new call is in range. -/
theorem callInRange_new {limit : Nat} (pos : 0 < limit) (phase : CallPhase) (x : Code)
    (k : CallClass) {n : Nat} (timer : n ≤ 500) : CallInRange limit ⟨phase, x, k, 0, 0, n⟩ :=
  ⟨Nat.zero_le _, fun _ => pos, Nat.zero_le _, timer⟩

/-- A call that no longer rings, its timer loaded anew or as it was. -/
theorem callInRange_quiet {limit : Nat} {c d : Call} (h : CallInRange limit c)
    (cycles : d.cycles = c.cycles) (marks : d.marks = c.marks)
    (quiet : ∀ v, d.phase ≠ .ringing v) (timer : d.timer ≤ 500) : CallInRange limit d := by
  obtain ⟨hc, -, hm, -⟩ := h
  refine ⟨cycles ▸ hc, ?_, marks ▸ hm, timer⟩
  rintro (ring | ring)
  all_goals exact absurd ring (quiet _)

theorem callInRange_answer {limit : Nat} {c : Call} (h : CallInRange limit c) :
    CallInRange limit c.answer :=
  callInRange_quiet h rfl rfl (by simp [Call.answer]) (by simp [Call.answer])

/-- The timer of a call loaded anew. -/
theorem callInRange_timer {limit : Nat} {c : Call} (h : CallInRange limit c) {n : Nat}
    (timer : n ≤ 500) : CallInRange limit { c with timer := n } := by
  obtain ⟨cycles, ringing, marks, -⟩ := h
  exact ⟨cycles, ringing, marks, timer⟩

/-! ## RING and POLL -/

theorem keeps_letGo (c : Call) : Keeps s (letGo c s) :=
  (keeps_setSlot_none s).trans (keeps_withdraw _ _ _)

theorem keeps_takeRing (x : Code) (k : CallClass) : Keeps s (takeRing x k s) := by
  have held := keeps_queue s .answerUnit .hold x none
  have into : ∀ phase n, n ≤ 500 →
      Keeps s (setSlot (some ⟨phase, x, k, 0, 0, n⟩) (queue .answerUnit .hold x none s)) :=
    fun phase n hn => held.setSlot _ fun i =>
      callInRange_new i.limit_pos phase x k hn
  exact .ite (fun _ => (into _ 500 (by decide)).trans (keeps_start _ _ _)) fun _ =>
    .ite (fun _ => (into _ 300 (by decide)).trans (keeps_start _ _ _))
      fun _ => (into _ 500 (by decide)).trans (keeps_start _ _ _)

theorem keeps_trunkEndRing (x : Code) (k : CallClass) : Keeps s (trunkEndRing x k s) := by
  have taken := (keeps_queue s .answerUnit .hold x none).setSlot
    (answeredCall x k) fun i => callInRange_new i.limit_pos _ _ _ (by decide)
  exact .ite (fun _ => keeps_queue s _ _ _ _) fun _ =>
    .ite (fun _ => taken.trans (keeps_viewOwnClear _)) fun _ => taken

theorem keeps_preempt (old : Call) (x : Code) : Keeps s (preempt old x s) :=
  ((((keeps_withdraw s .answerUnit old.caller).setSlot (ringingCall .ringer x .urgent)
    fun i => callInRange_new i.limit_pos _ _ _ (by decide)).trans (keeps_start _ _ _))).trans
      (keeps_queue _ _ _ _ _)

theorem keeps_ringPastGlare (x : Code) (k : CallClass) : Keeps s (ringPastGlare x k s) := by
  unfold ringPastGlare
  split
  · exact .ite (fun _ => keeps_preempt s _ x) fun _ => keeps_queue s _ _ _ _
  · unfold ringToEmpty
    split
    · exact keeps_queue s _ _ _ _
    · exact .ite (fun _ => keeps_trunkEndRing s x k) fun _ => keeps_takeRing s x k

theorem keeps_ringAgainstRecord (x : Code) (k : CallClass) :
    Keeps s (ringAgainstRecord x k s) := by
  have past := keeps_ringPastGlare s x k
  have refused := fun r => keeps_queue s .answerUnit .refuse x (some (Refuse.digit r))
  unfold ringAgainstRecord
  split
  · exact .ite (fun _ => .ite (fun _ => .ite (fun _ => refused _) fun _ =>
      (keeps_yieldTo s x).trans (keeps_ringPastGlare _ x k)) fun _ => refused _) fun _ => past
  · exact past

theorem keeps_pollMatching (c : Call) (x : Code) (h : s.answer.slot = some c) :
    Keeps s (pollMatching c x s) := by
  have put : ∀ k arg d, (InRange s → CallInRange (cycleLimit s) d) →
      Keeps s (setSlot (some d) (queue .answerUnit k x arg s)) := fun k arg d ok =>
    (keeps_queue s .answerUnit k x arg).setSlot d ok
  unfold pollMatching
  split
  · exact put _ _ _ fun i => callInRange_timer (i.callOf h) (by decide)
  · exact (put _ _ { c with phase := .delivered, timer := 200 } fun i =>
      callInRange_quiet (i.callOf h) rfl rfl (by simp) (by simp)).trans (keeps_stopNow _ _ _)
  · exact put _ _ _ fun i => callInRange_timer (i.callOf h) (by decide)
  · exact (keeps_queue s _ _ _ _).trans (keeps_setSlot_none _)

theorem keeps_auPoll (x : Code) : Keeps s (auPoll x s) := by
  unfold auPoll
  split
  · next c hc => exact .ite (fun _ => keeps_pollMatching s c x hc) fun _ => keeps_queue s _ _ _ _
  · exact keeps_queue s _ _ _ _

theorem keeps_clearSounding (c : Call) : Keeps s (clearSounding c s) := by
  unfold clearSounding
  split
  · exact keeps_stopAtCycle s _ _
  · exact keeps_stopNow s _ _
  · exact keeps_start s _ _
  all_goals exact .refl s

theorem keeps_auClear (x : Code) : Keeps s (auClear x s) := by
  unfold auClear
  split
  · exact .ite (fun _ => (keeps_setSlot_none s).trans
      ((keeps_clearSounding _ _).trans (keeps_withdraw _ _ _))) fun _ => .refl s
  · exact .refl s

theorem keeps_auWord (w : LineWord) : Keeps s (auWord w s) := by
  unfold auWord
  split
  · exact .ite (fun _ => keeps_auPoll s _) fun _ => keeps_ringAgainstRecord s _ _
  · exact keeps_auPoll s _
  · exact keeps_auClear s _
  all_goals exact .refl s

/-! ## Ringing and its count -/

/-- R112: one cycle more of a ringing call, its marks as given. -/
theorem keeps_countCycle (c : Call) (v : ScriptVoice)
    (h : InRange s → c.cycles < cycleLimit s ∧ c.marks ≤ 3 ∧ c.timer ≤ 500) :
    Keeps s (countCycle c v s) :=
  .ite
    (fun _ => (keeps_setSlot s { c with phase := .expired, cycles := c.cycles + 1 }
      fun i => ⟨(h i).1, by simp, (h i).2⟩).trans (keeps_stopNow _ _ _))
    fun few => keeps_setSlot s _ fun i => ⟨(h i).1, fun _ => Nat.lt_of_not_le few, (h i).2⟩

theorem keeps_countMark (c : Call) (hc : s.answer.slot = some c)
    (ringing : c.phase = .ringing .earpiece) : Keeps s (countMark c s) := by
  have below : InRange s → c.cycles < cycleLimit s := fun i => (i.callOf hc).2.1 (.inr ringing)
  refine .ite (fun few => keeps_setSlot s _ fun i => ?_) fun _ =>
    keeps_countCycle s { c with marks := 0 } _ fun i =>
      ⟨below i, Nat.zero_le _, (i.callOf hc).2.2.2⟩
  obtain ⟨cycles, ring, -, timer⟩ := i.callOf hc
  exact ⟨cycles, ring, by simp only; omega, timer⟩

theorem keeps_auCycle (sc : Script) : Keeps s (auCycle sc s) := by
  unfold auCycle
  split
  · next c hc =>
    split
    · next ringing =>
      refine .ite (fun _ => keeps_countCycle s c _ fun i => ?_) fun _ => .refl s
      obtain ⟨-, below, marks, timer⟩ := i.callOf hc
      exact ⟨below (.inl ringing), marks, timer⟩
    · next ringing => exact .ite (fun _ => keeps_countMark s c hc ringing) fun _ => .refl s
    all_goals exact .refl s
  · exact .refl s

theorem keeps_auRingerFree : Keeps s (auRingerFree s) := by
  unfold auRingerFree
  split
  · exact .ite (fun _ => keeps_start s _ _) fun _ => .refl s
  · exact .refl s

/-! ## Hook reports, held by others, expiries -/

theorem keeps_answerHook (b : Bool) : Keeps s { s with answer.offHook := b } :=
  keeps_answer s _ fun i => i.slot

theorem keeps_auOffHook : Keeps s (auOffHook s) := by
  have lifted := keeps_answerHook s true
  unfold auOffHook
  simp only
  split
  · exact lifted.trans (keeps_stopNow _ _ _)
  · next c hc =>
    refine lifted.trans ?_
    split
    · exact ((keeps_setSlot { s with answer.offHook := true } _ fun i =>
        callInRange_answer (i.callOf hc)).trans (keeps_stopNow _ _ _)).trans (keeps_start _ _ _)
    · exact .refl _
    all_goals exact keeps_stopNow _ _ _

theorem keeps_auFlash : Keeps s (auFlash s) := by
  unfold auFlash
  split
  · next c hc =>
    exact .ite (fun _ => (((keeps_setSlot s _ fun i => callInRange_answer (i.callOf hc)).trans
      (keeps_stopNow _ _ _)).trans (keeps_start _ _ _)).trans (keeps_viewOwnClear _)) fun _ => .refl s
  · exact .refl s

theorem keeps_moveToBell (c : Call) (hc : s.answer.slot = some c)
    (ringing : c.phase = .ringing .earpiece) : Keeps s (moveToBell c s) := by
  refine Keeps.trans (keeps_setSlot s { c with phase := .ringing .ringer, marks := 0 } fun i => ?_)
    (keeps_start _ _ _)
  obtain ⟨cycles, below, -, timer⟩ := i.callOf hc
  exact ⟨cycles, fun _ => below (.inr ringing), Nat.zero_le _, timer⟩

theorem keeps_clearCaller (c : Call) :
    Keeps s (setSlot none (queue .answerUnit .clear c.caller none s)) :=
  (keeps_queue s _ _ _ _).trans (keeps_setSlot_none _)

theorem keeps_auHangUp : Keeps s (auHangUp s) := by
  have down := keeps_answerHook s false
  unfold auHangUp
  simp only
  split
  · exact down
  · next c hc =>
    refine down.trans ?_
    split
    · next ringing => exact keeps_moveToBell _ c hc ringing
    · exact keeps_clearCaller _ c
    · exact .ite (fun _ => keeps_letGo _ c) fun _ => keeps_clearCaller _ c
    all_goals exact .refl _

theorem keeps_auHeldByOthers : Keeps s (auHeldByOthers s) := by
  unfold auHeldByOthers
  split
  · exact .ite (fun _ => (keeps_setSlot_none s).trans
      ((keeps_stopAtCycle _ _ _).trans (keeps_queue _ _ _ _ _))) fun _ => .refl s
  · exact .refl s

theorem keeps_onCall (f : Call → State → State) (h : ∀ c, Keeps s (f c s)) :
    Keeps s (onCall f s) := by
  unfold onCall
  split
  · exact h _
  · exact .refl s

theorem keeps_takeCompletionHold : Keeps s (takeCompletionHold s) :=
  keeps_onCall s _ fun c => (keeps_letGo s c).trans (keeps_start _ _ _)

theorem keeps_takeLinger : Keeps s (takeLinger s) := keeps_onCall s _ fun c => keeps_letGo s c

theorem keeps_takePollLoss : Keeps s (takePollLoss s) := by
  refine keeps_onCall s _ fun c => (keeps_letGo s c).trans ?_
  unfold lossSounding
  split
  · exact keeps_stopAtCycle _ _ _
  · exact keeps_stopNow _ _ _
  all_goals exact .refl _

theorem keeps_tickSlot : Keeps s (tickSlot s) :=
  keeps_answer s _ fun i c hc => by
    obtain ⟨c, found, rfl⟩ := Option.map_eq_some_iff.mp hc
    have ok := i.callOf found
    exact callInRange_timer ok ((Nat.sub_le _ _).trans ok.2.2.2)

/-! ## Events, and the dialling that follows -/

theorem keeps_takeEvent (e : Event) : Keeps s (takeEvent e s) := by
  cases e with
  | sent o w =>
    cases o with
    | requestUnit => exact keeps_ruSent s w
    | lineView => exact keeps_viewNotice s w
    | answerUnit | dialDecoder => exact .refl s
  | abandoned o w c =>
    cases o with
    | requestUnit => exact keeps_ruAbandoned s w
    | lineView => exact keeps_viewNotice s w
    | answerUnit | dialDecoder => exact .refl s
  | lost a sc => exact .refl s
  | finish a sc =>
    cases a with
    | requestUnit => exact keeps_ruFinish s sc
    | answerUnit | lineView | dialDecoder => exact .refl s
  | ringerFree => exact keeps_auRingerFree s
  | heldByOthers a =>
    cases a with
    | answerUnit => exact keeps_auHeldByOthers s
    | requestUnit => exact keeps_ruHeldByOthers s
    | lineView | dialDecoder => exact .refl s

theorem keeps_drain (n : Nat) : Keeps s (drain n s) := by
  induction n generalizing s with
  | zero => exact keeps_inbox s []
  | succ n ih =>
    unfold drain
    split
    · exact .refl s
    · exact (keeps_inbox s _).trans ((keeps_takeEvent _ _).trans (ih _))

theorem dialInRange_discard {d : DialDecoder} (h : DialInRange d) : DialInRange d.discard := by
  obtain ⟨rawRun, period, -⟩ := h
  exact ⟨rawRun, period, by simp [DialDecoder.discard]⟩

theorem keeps_followDial : Keeps s (followDial s) :=
  .ite (fun _ => keeps_setDial s _ dialInRange_discard) fun _ => .refl s

theorem keeps_finish : Keeps s (finish s) := (keeps_drain s _).trans (keeps_followDial _)

end Sys2Proof.Machine
end

section
/-! The steps of scripts, dial, transmitter, receiver and trunk keep the ranges. -/

namespace Sys2Proof.Machine

variable (s : State)

/-! ## Scripts (R57 to R60) -/

theorem keeps_sendCycle (a : Option Agent) (sc : Script) : Keeps s (sendCycle a sc s) := by
  unfold sendCycle
  split
  · exact keeps_auCycle s sc
  all_goals exact .refl s

/-- R60: the play count after REPEAT stays in range. -/
theorem repeatPlays_le {n plays : Nat} {c : CadenceVoice} (count : n ≤ 15) (old : c.plays ≤ 15)
    (h : repeatPlays n c = some plays) : plays ≤ 15 := by
  unfold repeatPlays at h
  split_ifs at h <;> simp only [Option.some.injEq] at h <;> omega

theorem keeps_runScript (n : Nat) (v : ScriptVoice) (i : Nat) : Keeps s (runScript n v i s) := by
  induction n generalizing s i with
  | zero => exact .refl s
  | succ n ih =>
    unfold runScript
    simp only
    split
    · exact .refl s
    · next sc _ =>
      split
      · exact keeps_endScript s v
      · next p ticks step =>
        obtain ⟨index, ok⟩ := step_inRange step
        simp only [ScriptStep.inRange, decide_eq_true_eq] at ok
        exact keeps_setVoice s v _ fun h => ⟨by simp, ok.1, h.2.2.1, index, ok.2, h.2.2.2.2.2⟩
      · next ticks step =>
        obtain ⟨index, ok⟩ := step_inRange step
        simp only [ScriptStep.inRange, decide_eq_true_eq] at ok
        exact keeps_setVoice s v _ fun h => ⟨h.1, h.2.1, h.2.2.1, index, ok, h.2.2.2.2.2⟩
      · exact .ite (fun _ => keeps_endScript s v) fun _ => (keeps_sendCycle s _ _).trans (ih _ _)
      · next k step =>
        obtain ⟨-, ok⟩ := step_inRange step
        simp only [ScriptStep.inRange, decide_eq_true_eq] at ok
        split
        · next plays more =>
          refine (keeps_setVoice s v _ fun h => ?_).trans (ih _ _)
          exact ⟨h.1, h.2.1, h.2.2.1, h.2.2.2.1, h.2.2.2.2.1, repeatPlays_le ok h.2.2.2.2.2 more⟩
        · exact keeps_endScript s v
      · exact keeps_endScript s v

theorem keeps_tickVoice (v : ScriptVoice) : Keeps s (tickVoice v s) :=
  .ite (fun _ => .refl s) fun _ => .ite
    (fun _ => keeps_setVoice s v _ fun h =>
      ⟨h.1, h.2.1, h.2.2.1, h.2.2.2.1, (Nat.sub_le _ _).trans h.2.2.2.2.1, h.2.2.2.2.2⟩)
    fun _ => keeps_runScript s _ _ _

/-! ## Deliveries in any order -/

theorem keeps_inOrder (o : DeliveryOrder) (f g h : State → State) (hf : ∀ u, Keeps u (f u))
    (hg : ∀ u, Keeps u (g u)) (hh : ∀ u, Keeps u (h u)) : Keeps s (inOrder o f g h s) := by
  cases o
  · exact ((hf s).trans (hg _)).trans (hh _)
  · exact ((hf s).trans (hh _)).trans (hg _)
  · exact ((hg s).trans (hf _)).trans (hh _)
  · exact ((hg s).trans (hh _)).trans (hf _)
  · exact ((hh s).trans (hf _)).trans (hg _)
  · exact ((hh s).trans (hg _)).trans (hf _)

/-! ## The hook (R125, R126) -/

theorem keeps_reportOffHook (o : DeliveryOrder) : Keeps s (reportOffHook o s) :=
  (keeps_engineOffHook s).trans
    (keeps_inOrder _ o _ _ _ keeps_viewOffHook keeps_auOffHook keeps_ruOffHook)

theorem keeps_reportHangUp (o : DeliveryOrder) : Keeps s (reportHangUp o s) :=
  (keeps_engineHangUp s).trans
    (keeps_inOrder _ o _ _ _ keeps_viewHangUp keeps_auHangUp keeps_ruHangUp)

theorem keeps_takeHangUp (o : DeliveryOrder) : Keeps s (takeHangUp o s) :=
  ((keeps_setDial s { s.dial.discard with hangUpDue := false } dialInRange_discard).trans
    (keeps_reportHangUp _ o)).trans (keeps_finish _)

theorem dialInRange_lifted {d : DialDecoder} (h : DialInRange d) : DialInRange d.lifted := by
  obtain ⟨rawRun, -, rest⟩ := h
  exact ⟨rawRun, Nat.zero_le _, rest⟩

theorem dialInRange_forgetDigits {d : DialDecoder} (h : DialInRange d) :
    DialInRange d.forgetDigits := by
  obtain ⟨rawRun, period, pulses, opening, closure, -⟩ := h
  exact ⟨rawRun, period, pulses, opening, closure, by simp [DialDecoder.forgetDigits]⟩

theorem dialInRange_lowered {d : DialDecoder} (h : DialInRange d) : DialInRange d.lowered := by
  obtain ⟨rawRun, -, -, -, -, buffer, wait⟩ := h
  exact ⟨rawRun, Nat.zero_le _, Nat.zero_le _, Nat.zero_le _, Nat.zero_le _, buffer, wait⟩

theorem keeps_wake : Keeps s (wake s) :=
  .ite (fun _ => ⟨fun h => { h with doze := Nat.zero_le _ }, id, .refl _, rfl, rfl, rfl⟩) fun _ => .refl s

theorem keeps_endPeriod (o : DeliveryOrder) : Keeps s (endPeriod o s) :=
  .ite (fun _ => keeps_setDial s _ dialInRange_lifted) fun _ =>
    .ite (fun _ => (keeps_setDial s _ fun h => dialInRange_forgetDigits (dialInRange_lifted h)).trans
        (keeps_auFlash _))
      fun _ => (keeps_setDial s _ dialInRange_lifted).trans (keeps_reportOffHook _ o)

theorem keeps_changeHook (o : DeliveryOrder) : Keeps s (changeHook o s) := by
  unfold changeHook
  split
  · have dial : (wake s).dial = s.dial := by unfold wake; split <;> rfl
    refine ((keeps_wake s).trans (keeps_setDial _ _ ?_)).trans (keeps_reportOffHook _ o)
    rw [dial]; exact dialInRange_lifted
  · exact keeps_setDial s _ fun h => ⟨h.1, Nat.le_refl 80, h.2.2⟩
  · exact keeps_setDial s _ dialInRange_lowered
  · exact (keeps_wake s).trans (keeps_endPeriod _ o)
  all_goals exact .refl s

theorem keeps_takeHookChange (o : DeliveryOrder) : Keeps s (takeHookChange o s) :=
  (Keeps.ite (fun _ => keeps_takeHangUp s o) fun _ => .refl s).trans
    ((keeps_changeHook _ o).trans (keeps_finish _))

/-! ## Pulses and digits (R128, R129) -/

theorem keeps_takePulse (h : pulseDue s = true) : Keeps s (takePulse s) :=
  keeps_setDial s _ fun d => by
    obtain ⟨rawRun, period, -, -, -, buffer, -⟩ := d
    simp only [pulseDue, Bool.and_eq_true, decide_eq_true_eq] at h
    exact ⟨rawRun, period, h.2, Nat.zero_le _, Nat.zero_le _, buffer, by simp⟩

theorem keeps_takeInvalidDigit : Keeps s (takeInvalidDigit s) :=
  ((keeps_setDial s { s.dial.discard with state := .barred } dialInRange_discard).trans
    (keeps_start _ _ _)).trans (keeps_finish _)

/-- R129: only a short number is incomplete. -/
theorem namedCode_incomplete {urgent : Bool} {l : List Nat} (h : namedCode urgent l = .incomplete) :
    l.length ≤ 1 := by
  unfold namedCode at h
  split at h
  · exact Nat.le_refl 1
  · split at h <;> cases h
  · cases h

theorem dialPlan_incomplete {l : List Nat} (h : dialPlan l = .incomplete) : l.length ≤ 2 := by
  unfold dialPlan at h
  split at h
  · exact Nat.le_succ 1
  · cases h
  · exact Nat.succ_le_succ (namedCode_incomplete h)
  · exact (namedCode_incomplete h).trans (Nat.le_succ 1)

theorem dialPlanAtWait_ne_incomplete (l : List Nat) : dialPlanAtWait l ≠ .incomplete := by
  unfold dialPlanAtWait
  split <;> simp

/-- The decoder's counts without its buffer. -/
structure DialCountsInRange (d : DialDecoder) : Prop where
  rawRun : d.rawRun ≤ 3
  period : d.period ≤ 80
  pulses : d.pulses ≤ 10
  opening : d.opening ≤ 11
  closure : d.closure ≤ 30

theorem DialCountsInRange.discard {d : DialDecoder} (h : DialCountsInRange d) :
    DialInRange d.discard :=
  ⟨h.rawRun, h.period, by simp [DialDecoder.discard]⟩

theorem DialCountsInRange.settled {d : DialDecoder} (h : DialCountsInRange d) :
    DialInRange d.settled :=
  ⟨h.rawRun, h.period, h.pulses, h.opening, h.closure, by simp [DialDecoder.settled]⟩

/-- R129, R130: a buffer that is too long is never kept. -/
theorem keeps_settleDialling (r : Dialled) (d : DialDecoder)
    (counts : DialInRange s.dial → DialCountsInRange d)
    (buffer : r = .incomplete → d.buffer.length ≤ 3) : Keeps s (settleDialling r (setDial d s)) := by
  have rejected : ∀ sc, Keeps s (rejectDialling sc (setDial d s)) := fun sc =>
    (keeps_setDial s d.discard fun h => (counts h).discard).trans (keeps_start _ _ _)
  have settled : Keeps s (setDial d.settled (setDial d s)) :=
    keeps_setDial s d.settled fun h => (counts h).settled
  unfold settleDialling
  split
  · exact rejected _
  · refine keeps_setDial s { d with digitWait := some 300 } fun h => ?_
    obtain ⟨rawRun, period, pulses, opening, closure⟩ := counts h
    exact ⟨rawRun, period, pulses, opening, closure, buffer rfl, by simp⟩
  · exact .ite (fun _ => settled.trans (keeps_queue _ _ _ _ _)) fun _ => rejected _
  · split
    · exact rejected _
    · exact settled.trans (keeps_dialledCall _ _ _)

theorem keeps_takeDigitEnd : Keeps s (takeDigitEnd s) :=
  (keeps_settleDialling s _
    { s.dial with
      buffer := s.dial.buffer ++ [digitValue s.dial.pulses], pulses := 0, state := .idle }
    (fun ⟨rawRun, period, _, opening, closure, _⟩ =>
      ⟨rawRun, period, Nat.zero_le _, opening, closure⟩)
    fun h => (dialPlan_incomplete h).trans (by decide)).trans (keeps_finish _)

theorem keeps_takeDigitWait : Keeps s (takeDigitWait s) :=
  (keeps_settleDialling s _ { s.dial with digitWait := none }
    (fun ⟨rawRun, period, pulses, opening, closure, _⟩ =>
      ⟨rawRun, period, pulses, opening, closure⟩)
    fun h => absurd h (dialPlanAtWait_ne_incomplete _)).trans (keeps_finish _)

/-! ## HOOK and DIAL at a tick -/

theorem dialInRange_tickPeriod {d : DialDecoder} (h : DialInRange d) : DialInRange d.tickPeriod := by
  unfold DialDecoder.tickPeriod
  split
  · next due => exact ⟨h.1, due.2, h.2.2⟩
  · exact h

theorem dialInRange_readHook {d : DialDecoder} (h : DialInRange d) (closed : Bool) :
    DialInRange (d.readHook closed) := by
  unfold DialDecoder.readHook
  split
  · exact ⟨Nat.min_le_left _ _, h.2⟩
  · exact ⟨by simp, h.2⟩

theorem dialInRange_tickWait {d : DialDecoder} (h : DialInRange d) : DialInRange d.tickWait := by
  obtain ⟨rawRun, period, pulses, opening, closure, buffer, wait⟩ := h
  refine ⟨rawRun, period, pulses, opening, closure, buffer, fun n hn => ?_⟩
  obtain ⟨m, old, rfl⟩ := Option.map_eq_some_iff.mp hn
  exact (Nat.sub_le _ _).trans (wait m old)

theorem dialInRange_readDial {d : DialDecoder} (h : DialInRange d) (closed : Bool) :
    DialInRange (d.readDial closed) := by
  obtain ⟨rawRun, period, pulses, opening, closure, rest⟩ := h
  unfold DialDecoder.readDial
  split
  · split
    · exact ⟨rawRun, period, pulses, Nat.zero_le _, Nat.min_le_left _ _, rest⟩
    · exact ⟨rawRun, period, pulses, opening, closure, rest⟩
  · exact ⟨rawRun, period, pulses, Nat.min_le_left _ _, closure, rest⟩

theorem dialInRange_readBarred {d : DialDecoder} (h : DialInRange d) (closed : Bool) :
    DialInRange (d.readBarred closed) := by
  obtain ⟨rawRun, period, pulses, -, -, rest⟩ := h
  refine ⟨rawRun, period, pulses, Nat.zero_le _, ?_, rest⟩
  simp only [DialDecoder.readBarred]
  split
  · exact Nat.min_le_left _ _
  · exact Nat.zero_le _

theorem keeps_tickDial : Keeps s (tickDial s) := by
  refine .ite (fun _ => ?_) fun _ => .refl s
  simp only
  split
  · exact keeps_setDial s _ fun h => dialInRange_readDial (dialInRange_tickWait h) _
  · exact keeps_setDial s _ fun h => dialInRange_readDial (dialInRange_tickWait h) _
  · exact keeps_setDial s _ fun h => dialInRange_readBarred (dialInRange_tickWait h) _

theorem keeps_tickHook : Keeps s (tickHook s) :=
  .ite (fun _ => .refl s) fun _ =>
    keeps_setDial s _ fun h => dialInRange_readHook (dialInRange_tickPeriod h) _

end Sys2Proof.Machine
end

section
/-! The transmitter's decisions and steps keep its lanes in range (R75 to R82). -/

namespace Sys2Proof.Machine

variable (s : State)

/-! ## Lanes without and with an attempt -/

theorem queued_subset_entries (t : Transmitter) (l : Lane) : t.queued l ⊆ t.entries l := by
  unfold Transmitter.queued
  split
  · exact List.drop_subset _ _
  · exact fun _ h => h

theorem queued_of_not_inFlight {t : Transmitter} {l : Lane} (h : t.inFlight l = false) :
    t.queued l = t.entries l := by
  simp [Transmitter.queued, h]

theorem inFlight_of_no_attempt {t : Transmitter} (h : t.attempt = none) (l : Lane) :
    t.inFlight l = false := by
  simp [Transmitter.inFlight, h]

theorem inFlight_of_attempt {t : Transmitter} {a : Attempt} (h : t.attempt = some a) (l : Lane) :
    t.inFlight l = decide (a.lane = l) := by
  simp [Transmitter.inFlight, h]

/-- A lane whose entries have all had at most four attempts. -/
theorem laneInRange_of_queued {t : Transmitter} {l : Lane} (depth : (t.entries l).length ≤ l.capacity)
    (ok : ∀ e ∈ t.entries l, QueuedInRange l e) : LaneInRange t l :=
  ⟨depth, fun e he => (ok e he).entry, fun e he => (ok e (queued_subset_entries t l he)).1⟩

/-- A lane whose head is not in flight: its entries are its queued ones. -/
theorem LaneInRange.all_queued {t : Transmitter} {l : Lane} (h : LaneInRange t l)
    (idle : t.inFlight l = false) : ∀ e ∈ t.entries l, QueuedInRange l e := by
  rw [← queued_of_not_inFlight idle]
  exact h.queuedInRange

/-- R80 to R82: an attempt is over; the lane it served holds the entries `es`, the other lane is as it was. -/
theorem TxInRange.endAttempt {t t' : Transmitter} (h : TxInRange t) {a : Attempt}
    (attempt : t.attempt = some a) {es : List Entry} (entries : t'.entries a.lane = es)
    (other : ∀ m, m ≠ a.lane → t'.entries m = t.entries m)
    (depth : es.length ≤ (t.entries a.lane).length) (ok : ∀ e ∈ es, QueuedInRange a.lane e)
    (quiet : t'.quiet ≤ 3) (backOff : t'.backOff ≤ 76) : TxInRange t' := by
  refine ⟨quiet, backOff, fun m => laneInRange_of_queued ?_ ?_⟩
  · by_cases hm : m = a.lane
    · subst hm; rw [entries]; exact depth.trans (h.lanes _).depth
    · rw [other m hm]; exact (h.lanes m).depth
  · by_cases hm : m = a.lane
    · subst hm; rwa [entries]
    · have idle : t.inFlight m = false := by
        rw [inFlight_of_attempt attempt, decide_eq_false_iff_not]; exact fun h => hm h.symm
      rw [other m hm]; exact (h.lanes m).all_queued idle

/-- R71: the entries behind the one in flight. -/
theorem TxInRange.behind {t : Transmitter} (h : TxInRange t) {a : Attempt} {e : Entry}
    {rest : List Entry} (attempt : t.attempt = some a) (entries : t.entries a.lane = e :: rest) :
    ∀ x ∈ rest, QueuedInRange a.lane x := by
  have queued : t.queued a.lane = rest := by
    simp [Transmitter.queued, inFlight_of_attempt attempt, entries]
  rw [← queued]
  exact (h.lanes _).queuedInRange

/-! ## Starting an attempt (R78) -/

/-- R78: the transmitter as an attempt starts. -/
def Transmitter.started (t : Transmitter) (l : Lane) (checked : Bool) : Transmitter :=
  { t.setEntries l (startHead (t.entries l)) with
    attempt := some ⟨l, 0, checked⟩, quiet := 0, startDue := false }

theorem startAttempt_eq (l : Lane) (checked : Bool) :
    startAttempt l checked s = lineHold attnPair { s with tx := s.tx.started l checked } := rfl

@[simp] theorem started_entries_self (t : Transmitter) (l : Lane) (c : Bool) :
    (t.started l c).entries l = startHead (t.entries l) := by
  cases l <;> rfl

theorem started_entries_ne (t : Transmitter) {l m : Lane} (h : m ≠ l) (c : Bool) :
    (t.started l c).entries m = t.entries m := by
  cases l <;> cases m <;> first | rfl | exact absurd rfl h

theorem TxInRange.started {t : Transmitter} (h : TxInRange t) (idle : t.attempt = none) (l : Lane)
    (c : Bool) : TxInRange (t.started l c) := by
  have all := fun m => (h.lanes m).all_queued (inFlight_of_no_attempt idle m)
  refine ⟨Nat.zero_le _, by cases l <;> exact h.backOff, fun m => ?_⟩
  by_cases hm : m = l
  · subst hm
    have depth := (h.lanes m).depth
    have ok := all m
    have queued : (t.started m c).queued m = (t.entries m).drop 1 := by
      rw [Transmitter.queued, inFlight_of_attempt rfl, started_entries_self]
      cases t.entries m <;> simp [startHead]
    refine ⟨?_, ?_, fun e he => (ok e (List.drop_subset 1 _ (queued ▸ he))).1⟩
    · rw [started_entries_self]
      revert depth; cases t.entries m <;> exact id
    · rw [started_entries_self]
      revert ok
      cases t.entries m with
      | nil => simp [startHead]
      | cons e es =>
        simp only [startHead, List.mem_cons, forall_eq_or_imp]
        exact fun ⟨head, tail⟩ => ⟨⟨Nat.succ_le_succ head.1, head.2⟩, fun x hx => (tail x hx).entry⟩
  · exact laneInRange_of_queued (by rw [started_entries_ne t hm]; exact (h.lanes m).depth)
      (by rw [started_entries_ne t hm]; exact all m)

theorem keeps_startAttempt (idle : s.tx.attempt = none) (l : Lane) (c : Bool) :
    Keeps s (startAttempt l c s) :=
  (keeps_tx s (s.tx.started l c) fun h => h.started idle l c).trans (keeps_lineHold _ _)

/-- Fields of the transmitter besides the lanes and the two counts. -/
theorem keeps_txMarks (t : Transmitter) (entries : ∀ l, t.entries l = s.tx.entries l)
    (attempt : ∀ l, t.inFlight l = s.tx.inFlight l) (quiet : s.tx.quiet ≤ 3 → t.quiet ≤ 3)
    (backOff : s.tx.backOff ≤ 76 → t.backOff ≤ 76) : Keeps s { s with tx := t } :=
  keeps_tx s t fun h => ⟨quiet h.quiet, backOff h.backOff, fun l => by
    have queued : t.queued l = s.tx.queued l := by
      simp only [Transmitter.queued, attempt, entries]
    obtain ⟨depth, all, old⟩ := h.lanes l
    exact ⟨entries l ▸ depth, entries l ▸ all, queued ▸ old⟩⟩

theorem keeps_takeStart (idle : s.tx.attempt = none) : Keeps s (takeStart s) := by
  unfold takeStart
  split
  · exact keeps_startAttempt s idle _ _
  · exact keeps_txMarks s _ (fun l => by cases l <;> rfl) (fun _ => rfl) id id

/-! ## Waiting (R76, R77) -/

/-- R76, R77: both heads' wait counts raised. -/
def Transmitter.raised (t : Transmitter) : Transmitter :=
  { t with prompt := raiseHead 100 t.prompt, request := raiseHead 250 t.request }

theorem raised_entries (t : Transmitter) (l : Lane) :
    t.raised.entries l = raiseHead l.waitLimit (t.entries l) := by
  cases l <;> rfl

theorem TxInRange.raised {t : Transmitter} (h : TxInRange t) : TxInRange t.raised := by
  refine ⟨h.quiet, h.backOff, fun l => ?_⟩
  obtain ⟨depth, entries, queued⟩ := h.lanes l
  have same : t.raised.inFlight l = t.inFlight l := rfl
  unfold Transmitter.queued at queued
  refine ⟨?_, ?_, ?_⟩
  · rw [raised_entries]
    cases hl : t.entries l with
    | nil => exact Nat.zero_le _
    | cons e es => simpa [raiseHead, hl] using depth
  · rw [raised_entries]
    cases hl : t.entries l with
    | nil => simp [raiseHead]
    | cons e es =>
      rw [hl] at entries
      simp only [raiseHead, List.mem_cons, forall_eq_or_imp] at entries ⊢
      exact ⟨⟨entries.1.1, Nat.min_le_left _ _⟩, entries.2⟩
  · unfold Transmitter.queued
    rw [raised_entries, same]
    cases hl : t.entries l with
    | nil => simp [raiseHead]
    | cons e es =>
      rw [hl] at queued
      split at queued
      · simpa [raiseHead, *] using queued
      · simpa [raiseHead, *] using queued

theorem keeps_applyWaiting : Keeps s (applyWaiting s) :=
  .ite (fun _ => .ite
    (fun _ => keeps_txMarks s { s.tx with startDue := true } (fun l => by cases l <;> rfl)
      (fun _ => rfl) id id)
    fun _ => keeps_tx s s.tx.raised (·.raised)) fun _ => .refl s

theorem keeps_takeBackOffEnd : Keeps s (takeBackOffEnd s) :=
  (keeps_txMarks s { s.tx with backOffDue := false } (fun l => by cases l <;> rfl)
    (fun _ => rfl) id id).trans (keeps_applyWaiting _)

/-- R75: the quiet count stays within its range. -/
theorem movedQuiet_le (stopped : Bool) (quiet : Nat) (d : Decision) :
    movedQuiet stopped quiet d ≤ 3 := by
  unfold movedQuiet
  split
  · exact Nat.min_le_left _ _
  · exact Nat.zero_le _

theorem keeps_txIdleDecide (d : Decision) : Keeps s (txIdleDecide d s) := by
  have quiet := movedQuiet_le s.tx.cutBlock s.tx.quiet d
  refine .ite (fun _ => ?_) fun _ => ?_
  · exact (keeps_txMarks s { s.tx with quiet := movedQuiet s.tx.cutBlock s.tx.quiet d }
      (fun l => by cases l <;> rfl) (fun _ => rfl) (fun _ => quiet) id).trans (keeps_applyWaiting _)
  · exact keeps_txMarks s _ (fun l => by cases l <;> rfl) (fun _ => rfl) (fun _ => quiet)
      fun h => (Nat.sub_le _ _).trans h

/-! ## The end of an attempt (R80 to R82) -/

/-- R81: the transmitter once a spoiled entry waits for its retry, its lane holding `es`. -/
def Transmitter.retried (t : Transmitter) (l : Lane) (es : List Entry) (backOff : Nat) : Transmitter :=
  { t.setEntries l es with attempt := none, quiet := 0, backOff := backOff }

/-- R81: what the spoiled entry becomes: its own word again, or the newer word's. -/
def retryEntries (e : Entry) (rest : List Entry) : List Entry :=
  match takeOut e.word.dst rest with
  | some (newer, others) =>
    { e with word := newer.word, owner := newer.owner, wait := 0, retry := true } :: others
  | none => { e with wait := 0, retry := true } :: rest

/-- R81: the notice for the spoiled word that a newer one displaces. -/
def retryNotice (e : Entry) (rest : List Entry) (s : State) : State :=
  match takeOut e.word.dst rest with
  | some (newer, _) => noteDisplaced newer.owner e s
  | none => s

theorem lineStop_setTx (t : Transmitter) :
    lineStop { s with tx := t } = { lineStop s with tx := t } := by
  have same : inService { s with tx := t } = inService s := rfl
  unfold lineStop
  rw [same]
  split <;> rfl

theorem noteDisplaced_setTx (o : Agent) (e : Entry) (t : Transmitter) :
    noteDisplaced o e { s with tx := t } = { noteDisplaced o e s with tx := t } := by
  unfold noteDisplaced
  split <;> rfl

/-- R81: the entry that the station's own back-off makes wait. -/
theorem markForRetry_eq (l : Lane) (e : Entry) (rest : List Entry) :
    markForRetry l e rest s =
      retryNotice e rest
        { s with tx := { s.tx.setEntries l (retryEntries e rest) with
            backOff := (4 + ((ownCode s).getD 0).val) * e.attempts } } := by
  unfold markForRetry retryNotice retryEntries
  cases takeOut e.word.dst rest with
  | none => rfl
  | some r =>
    simp only [noteDisplaced_setTx]
    unfold setEntries
    rw [noteDisplaced_setTx]

theorem takeOut_subset {dst : Code} {es others : List Entry} {x : Entry}
    (h : takeOut dst es = some (x, others)) : others.length ≤ es.length ∧ others ⊆ es := by
  induction es generalizing others with
  | nil => cases h
  | cons e es ih =>
    unfold takeOut at h
    split at h
    · cases h
      exact ⟨by simp, List.subset_cons_self _ _⟩
    · obtain ⟨⟨_, ys⟩, found, eq⟩ := Option.map_eq_some_iff.mp h
      cases eq
      obtain ⟨len, sub⟩ := ih found
      exact ⟨by simpa using len, List.cons_subset_cons _ sub⟩

theorem retryEntries_inRange {l : Lane} {e : Entry} {rest : List Entry} (few : e.attempts < 5)
    (ok : ∀ x ∈ rest, QueuedInRange l x) :
    (retryEntries e rest).length ≤ rest.length + 1 ∧ ∀ x ∈ retryEntries e rest, QueuedInRange l x := by
  have head : ∀ w o, QueuedInRange l { e with word := w, owner := o, wait := 0, retry := true } :=
    fun _ _ => ⟨Nat.le_of_lt_succ few, Nat.zero_le _⟩
  unfold retryEntries
  split
  · next others found =>
    obtain ⟨len, sub⟩ := takeOut_subset found
    refine ⟨by simpa using len, ?_⟩
    simpa using ⟨head _ _, fun x hx => ok x (sub hx)⟩
  · refine ⟨by simp, ?_⟩
    simpa using ⟨head _ _, ok⟩

theorem keeps_retryNotice (e : Entry) (rest : List Entry) : Keeps s (retryNotice e rest s) := by
  unfold retryNotice
  split
  · exact keeps_noteDisplaced s _ _
  · exact .refl s

theorem retried_entries_self (t : Transmitter) (l : Lane) (es : List Entry) (n : Nat) :
    (t.retried l es n).entries l = es := by
  cases l <;> rfl

theorem retried_entries_ne (t : Transmitter) {l m : Lane} (h : m ≠ l) (es : List Entry) (n : Nat) :
    (t.retried l es n).entries m = t.entries m := by
  cases l <;> cases m <;> first | rfl | exact absurd rfl h

/-- The end of an attempt, with any line command and back-off. -/
theorem TxInRange.retried {t : Transmitter} (h : TxInRange t) {a : Attempt}
    (attempt : t.attempt = some a) {es : List Entry} {n : Nat}
    (depth : es.length ≤ (t.entries a.lane).length) (ok : ∀ e ∈ es, QueuedInRange a.lane e)
    (backOff : n ≤ 76) : TxInRange (t.retried a.lane es n) :=
  h.endAttempt attempt (retried_entries_self _ _ _ _) (fun _ hm => retried_entries_ne t hm _ _) depth
    ok (Nat.zero_le _) backOff

/-- R81: the state after a spoiled attempt, below the fifth. -/
theorem spoil_retry {e : Entry} (few : e.attempts < 5) (l : Lane) (rest : List Entry) :
    spoil l e rest { s with tx.quiet := 0 } =
      retryNotice e rest
        { lineStop s with
          tx := s.tx.retried l (retryEntries e rest)
            ((4 + ((ownCode s).getD 0).val) * e.attempts) } := by
  have own : ∀ t, ownCode (lineStop { s with tx := t }) = ownCode s := fun t => by
    unfold lineStop; split <;> rfl
  unfold spoil
  simp only [if_pos few]
  rw [markForRetry_eq, own, lineStop_setTx]
  cases l <;> rfl

/-- R81: the state after a fifth spoiled attempt. -/
theorem spoil_giveUp {e : Entry} (fifth : ¬e.attempts < 5) (l : Lane) (rest : List Entry) :
    spoil l e rest { s with tx.quiet := 0 } =
      emit (.abandoned e.owner e.word .spoiled)
        (setSendAbandoned { lineStop s with tx := s.tx.retried l (promote rest) 0 }) := by
  unfold spoil
  simp only [if_neg fifth]
  rw [lineStop_setTx]
  cases l <;> rfl

/-- R82: the state after a completed attempt. -/
theorem completeAttempt_eq (l : Lane) (e : Entry) (rest : List Entry) :
    completeAttempt l e rest { s with tx.quiet := 0 } =
      emit (.sent e.owner e.word) { s with tx := s.tx.retried l (promote rest) s.tx.backOff } := by
  cases l <;> rfl

theorem keeps_spoil {a : Attempt} {e : Entry} {rest : List Entry} (attempt : s.tx.attempt = some a)
    (entries : s.tx.entries a.lane = e :: rest) :
    Keeps s (spoil a.lane e rest { s with tx.quiet := 0 }) := by
  have stopped : ∀ es n, (TxInRange s.tx → es.length ≤ rest.length + 1 ∧
      (∀ x ∈ es, QueuedInRange a.lane x)) → n ≤ 76 →
      Keeps s { lineStop s with tx := s.tx.retried a.lane es n } := fun es n ok hn =>
    (keeps_lineStop s).trans (keeps_tx _ _ fun h => by
      rw [lineStop_tx] at h
      exact h.retried attempt (by rw [entries]; exact (ok h).1) (ok h).2 hn)
  by_cases few : e.attempts < 5
  · rw [spoil_retry s few]
    refine (stopped _ _ (fun h => retryEntries_inRange few (h.behind attempt entries)) ?_).trans
      (keeps_retryNotice _ _ _)
    have own : ((ownCode s).getD 0).val ≤ 15 := Nat.le_of_lt_succ (Fin.isLt _)
    calc (4 + ((ownCode s).getD 0).val) * e.attempts
        ≤ 19 * 4 := Nat.mul_le_mul (by omega) (by omega)
      _ = 76 := rfl
  · rw [spoil_giveUp s few]
    refine ((stopped _ _ (fun h => ⟨?_, ?_⟩) (Nat.zero_le _)).trans (keeps_setSendAbandoned _)).trans
      (keeps_emit _ _)
    · rw [promote_length]; exact Nat.le_succ _
    · exact mem_promote (h.behind attempt entries) (queuedInRange_zero _)

theorem keeps_completeAttempt {a : Attempt} {e : Entry} {rest : List Entry}
    (attempt : s.tx.attempt = some a) (entries : s.tx.entries a.lane = e :: rest) :
    Keeps s (completeAttempt a.lane e rest { s with tx.quiet := 0 }) := by
  rw [completeAttempt_eq]
  refine (keeps_tx s _ fun h => h.retried attempt ?_ ?_ h.backOff).trans (keeps_emit _ _)
  · rw [promote_length, entries]; exact Nat.le_succ _
  · exact mem_promote (h.behind attempt entries) (queuedInRange_zero _)

theorem keeps_boundaryCommand (w : LineWord) (pos : Nat) : Keeps s (boundaryCommand w pos s) :=
  .ite (fun _ => keeps_lineHold s _) fun _ => .ite (fun _ => keeps_lineGap s) fun _ => .refl s

theorem keeps_txAttemptDecide {a : Attempt} (attempt : s.tx.attempt = some a) (d : Decision) :
    Keeps s (txAttemptDecide a d s) := by
  unfold txAttemptDecide
  simp only
  split
  · next none_left =>
    refine keeps_tx s _ fun h => h.endAttempt attempt none_left (fun m _ => by cases m <;> rfl)
      (Nat.zero_le _) (by simp) (Nat.zero_le _) h.backOff
  · next entries =>
    refine .ite (fun _ => keeps_spoil s attempt entries) fun _ => .ite (fun _ => ?_) fun _ =>
      keeps_completeAttempt s attempt entries
    refine Keeps.trans (keeps_txMarks s
      { s.tx with attempt := some { a with pos := a.pos + 1 }, quiet := 0 }
      (fun l => by cases l <;> rfl) (fun l => ?_) (fun _ => Nat.zero_le _) id)
      (keeps_boundaryCommand _ _ _)
    rw [inFlight_of_attempt attempt]; rfl

theorem keeps_txDecide (d : Decision) : Keeps s (txDecide d s) := by
  unfold txDecide
  split
  · next attempt => exact keeps_txAttemptDecide s attempt d
  · exact keeps_txIdleDecide s d

/-- R77: the request head is given up only while no attempt sends it. -/
theorem keeps_takeRequestWaitLimit (h : requestWaitDue s = true) :
    Keeps s (takeRequestWaitLimit s) := by
  simp only [requestWaitDue, Bool.and_eq_true, Bool.not_eq_true'] at h
  unfold takeRequestWaitLimit
  split
  · exact .refl s
  · next e es lane =>
    have empty : s.tx.flying .request = [] := by simp [Transmitter.flying, h.1]
    have queued : s.tx.queued .request = e :: es := by
      rw [queued_of_not_inFlight h.1]; exact lane
    have removed := keeps_setQueued s .request (promote es)
      (fun i => i.depth_of_le _ (by rw [promote_length, queued]; exact Nat.le_succ _))
      (fun i => mem_promote (fun x hx => (i.lanes .request).queuedInRange x (by
        rw [queued]; exact List.mem_cons_of_mem _ hx)) (queuedInRange_zero _))
    rw [empty] at removed
    exact removed.trans (keeps_emit _ _)

end Sys2Proof.Machine
end

section
/-! The settings that a page gives (R158). -/

namespace Sys2Proof.Machine

/-- R158: a page that gives settings is valid, and each setting is read from its cell. -/
theorem settings_eq_some_iff (p : Page) (v : Settings) :
    p.settings = some v ↔ p.valid = true ∧ v =
      { code := Fin.ofNat 16 p.c0.toNat
        cadence := Fin.ofNat 8 (settingOf p.c1 0 7 0 (fun _ => 7))
        limit := settingOf p.c2 4 15 10 (clampTo 4 15)
        permissions := settingOf p.c3 0 3 0 (fun _ => 0)
        level := settingOf p.c4 0 3 2 (fun _ => 3)
        sensitivity := settingOf p.c5 0 7 2 (fun _ => 7)
        lenient := decide (settingOf p.c6 0 1 0 (fun _ => 0) = 1)
        revert := settingOf p.c7 2 12 6 (clampTo 2 12) } := by
  unfold Page.settings
  split
  · next valid => simp [valid, eq_comm]
  · next invalid => simp [invalid]

theorem valid_iff (p : Page) :
    p.valid = true ↔ p.c8 = 0xA5 ∧ 1 ≤ p.c0.toNat ∧ p.c0.toNat ≤ 15 := by
  simp [Page.valid]

theorem settings_isSome_iff (p : Page) :
    p.settings.isSome = true ↔ p.c8 = 0xA5 ∧ 1 ≤ p.c0.toNat ∧ p.c0.toNat ≤ 15 := by
  rw [← valid_iff]
  unfold Page.settings
  split <;> simp_all

/-- The erased byte by its value. -/
theorem byte_eq_erased_iff (b : Byte) : b = 0xFF ↔ b.toNat = 255 :=
  BitVec.toNat_inj.symm

/-- R158: a setting of a range from 0, any larger value read as the range's end. -/
theorem settingOf_capped (b : Byte) (high unwritten : Nat) :
    settingOf b 0 high unwritten (fun _ => high) = if b = 0xFF then unwritten else min high b.toNat := by
  unfold settingOf
  split
  · rfl
  · simp only [Nat.zero_le, true_and]
    split <;> omega

/-- R158: a setting whose other values are clamped to its range. -/
theorem settingOf_clamped (b : Byte) {low high : Nat} (order : low ≤ high) (unwritten : Nat) :
    settingOf b low high unwritten (clampTo low high) =
      if b = 0xFF then unwritten else max low (min high b.toNat) := by
  unfold settingOf clampTo
  split
  · rfl
  · split_ifs <;> omega

/-- R158: a setting of a range from 0 that reads 0 for every other value. -/
theorem settingOf_zero (b : Byte) {high : Nat} (below : high < 255) :
    settingOf b 0 high 0 (fun _ => 0) = if b.toNat ≤ high then b.toNat else 0 := by
  simp only [settingOf, byte_eq_erased_iff]
  split_ifs <;> omega

/-- Settles O5: the page's cells, one by one, by the three shapes of R158's rows. -/
theorem settingsComeFromThePageTable : Obligations.SettingsComeFromThePageTable := by
  intro p
  refine ⟨settings_isSome_iff p, fun v hv => ?_⟩
  obtain ⟨valid, rfl⟩ := (settings_eq_some_iff p v).mp hv
  obtain ⟨-, -, code⟩ := (valid_iff p).mp valid
  have cadence := settingOf_capped p.c1 7 0
  have lenient : settingOf p.c6 0 1 0 (fun _ => 0) = 1 ↔ p.c6 = 1 := by
    rw [settingOf_zero _ (by decide), ← BitVec.toNat_inj]
    change _ ↔ p.c6.toNat = 1
    split <;> omega
  refine ⟨Nat.mod_eq_of_lt (Nat.lt_succ_of_le code), ?_, settingOf_clamped _ (by decide) _,
    settingOf_zero _ (by decide), settingOf_capped _ _ _, settingOf_capped _ _ _,
    decide_eq_decide.mpr lenient, settingOf_clamped _ (by decide) _⟩
  rw [← cadence]
  refine Nat.mod_eq_of_lt ?_
  rw [cadence]
  split <;> omega

/-- R158: the settings that a page gives are in range. -/
theorem settingsInRange_of_page {p : Page} {v : Settings} (h : p.settings = some v) :
    SettingsInRange v := by
  have valid := (settings_isSome_iff p).mp (by rw [h]; rfl)
  obtain ⟨code, -, limit, permissions, level, sensitivity, -, revert⟩ :=
    (settingsComeFromThePageTable p).2 v h
  refine ⟨by omega, ?_, ?_, ?_, ?_, ?_, ?_, ?_⟩
  all_goals first | rw [limit] | rw [permissions] | rw [level] | rw [sensitivity] | rw [revert]
  all_goals split <;> omega

end Sys2Proof.Machine
end

section
/-! The receiver, the trunk and the block's end keep the ranges; the Setup Link's own steps do too. -/

namespace Sys2Proof.Machine

variable (s : State)

/-! ## The Word Receiver -/

theorem keeps_rx (r : Receiver) : Keeps s { s with rx := r } :=
  ⟨fun h => { h with }, id, .refl _, rfl, rfl, rfl⟩

theorem keeps_setBrokenWord : Keeps s (setBrokenWord s) :=
  keeps_conds s _ { Conditions.Within.refl s.conds with brokenWord := fun _ => rfl }

theorem keeps_setClash : Keeps s (setClash s) :=
  keeps_conds s _ { Conditions.Within.refl s.conds with clash := fun _ => rfl }

theorem keeps_setStuckTone : Keeps s (setStuckTone s) :=
  keeps_conds s _ { Conditions.Within.refl s.conds with stuckTone := fun _ => rfl }

theorem keeps_setSymbol (r : SymbolRecord) : Keeps s (setSymbol r s) := keeps_rx s _

theorem keeps_setWord (w : Option WordRecord) : Keeps s (setWord w s) := keeps_rx s _

theorem keeps_setUnusable (n : Nat) : Keeps s (setUnusable n s) := keeps_rx s _

theorem keeps_breakWord : Keeps s (breakWord s) := by
  unfold breakWord
  split
  · exact (keeps_setWord s _).trans (keeps_setBrokenWord _)
  · exact .refl s

theorem keeps_onlyIf (b : Bool) (f : State → State) (h : ∀ u, Keeps u (f u)) :
    Keeps s (onlyIf b f s) :=
  .ite (fun _ => h s) fun _ => .refl s

theorem keeps_takeValidWord (own : Bool) (w : LineWord) (o : DeliveryOrder) :
    Keeps s (takeValidWord own w o s) := by
  have clash : Keeps s (if isClash own w s then setClash s else s) :=
    .ite (fun _ => keeps_setClash s) fun _ => .refl s
  exact .ite (fun _ => clash.trans (keeps_inOrder _ o _ _ _ (fun u => keeps_viewWord u own w)
    (fun u => keeps_onlyIf u _ _ fun v => keeps_auWord v w)
    (fun u => keeps_onlyIf u _ _ fun v => keeps_ruWord v w))) fun _ => clash

theorem keeps_completeWord (r : WordRecord) (check : Code) (o : DeliveryOrder) :
    Keeps s (completeWord r check o s) := by
  have broken := (keeps_setWord s none).trans (keeps_setBrokenWord _)
  unfold completeWord
  simp only
  split
  · exact .ite (fun _ => (keeps_setWord s none).trans (keeps_takeValidWord _ _ _ _)) fun _ => broken
  · exact broken

theorem keeps_placeSymbol (i : Nat) (o : DeliveryOrder) : Keeps s (placeSymbol i o s) := by
  unfold placeSymbol
  split
  · exact .refl s
  · refine .ite (fun _ => ?_) fun _ => ?_
    · unfold placeCheck
      split
      · exact keeps_completeWord s _ _ _
      · exact keeps_breakWord s
    · split
      · exact keeps_setWord s _
      · exact keeps_breakWord s

theorem keeps_acceptSymbol (p : Pair) (own : Bool) : Keeps s (acceptSymbol p own s) :=
  .ite (fun _ => (keeps_setSymbol s _).trans ((keeps_breakWord _).trans (keeps_setWord _ _)))
    fun _ => keeps_setSymbol s _

theorem keeps_takePair (p : Pair) (inTx : Bool) : Keeps s (takePair p inTx s) := by
  unfold takePair
  split
  · exact keeps_setSymbol s _
  · exact .ite (fun _ => keeps_acceptSymbol s p _) fun _ => keeps_setSymbol s _
  · exact .ite (fun _ => .ite (fun _ => .refl s) fun _ => keeps_setSymbol s _)
      fun _ => (keeps_breakWord s).trans (keeps_setSymbol _ _)

theorem keeps_takeSilence (o : DeliveryOrder) : Keeps s (takeSilence o s) := by
  have counted : Keeps s (countSilent (setSymbol .idle s)) :=
    (keeps_setSymbol s .idle).trans (keeps_setWord _ _)
  unfold takeSilence
  split
  · exact counted
  · exact counted
  · exact .ite (fun _ => keeps_setSymbol s _) fun _ =>
      (keeps_setSymbol s _).trans (keeps_placeSymbol _ _ o)

theorem keeps_rxDecide (d : Decision) (inTx : Bool) (o : DeliveryOrder) :
    Keeps s (rxDecide d inTx o s) := by
  have marked : Keeps s (markOwn inTx s) := keeps_rx s _
  have fresh := marked.trans (keeps_setUnusable _ 0)
  unfold rxDecide
  simp only
  split
  · exact fresh.trans (keeps_takePair _ _ inTx)
  · exact fresh.trans (keeps_takeSilence _ o)
  · exact fresh.trans (keeps_takeSilence _ o)
  · exact fresh.trans ((keeps_breakWord _).trans (keeps_setSymbol _ _))
  · exact marked.trans (keeps_setUnusable _ _)

theorem keeps_takeUnusableLimit : Keeps s (takeUnusableLimit s) :=
  (keeps_breakWord s).trans ((keeps_setSymbol _ _).trans (keeps_setUnusable _ _))

theorem keeps_takeOverLong : Keeps s (takeOverLong s) :=
  (keeps_breakWord s).trans (keeps_setSymbol _ _)

theorem keeps_takeStuckTone : Keeps s (takeStuckTone s) := by
  refine (keeps_setStuckTone s).trans (Keeps.trans ?_ (keeps_setSymbol _ _))
  unfold dropOpening
  split
  · exact .ite (fun _ => keeps_setWord _ _) fun _ => .refl _
  · exact .refl _

/-! ## The Trunk Interface -/

theorem keeps_setTrunk (t : TrunkInterface) (h : s.trunk.silence ≤ 300 → t.silence ≤ 300) :
    Keeps s (setTrunk t s) :=
  ⟨fun r => { r with silence := h r.silence }, id, .refl _, rfl, rfl, rfl⟩

/-- R149: the silence count stays within its range. -/
theorem movedSilence_le (n : Nat) (ring : Bool) : movedSilence n ring ≤ 300 := by
  unfold movedSilence
  split
  · exact Nat.zero_le _
  · exact Nat.min_le_left _ _

@[simp] theorem wake_trunk : (wake s).trunk = s.trunk := by
  unfold wake; split <;> rfl

theorem keeps_setBadTrunkCode : Keeps s (setBadTrunkCode s) :=
  keeps_conds s _ { Conditions.Within.refl s.conds with badTrunkCode := fun _ => rfl }

theorem keeps_takeRise : Keeps s (takeRise s) := by
  have latched : ∀ i, Keeps s (setTrunk
      { (wake s).trunk with latched := some s.pins.trunkCode, incoming := i } (wake s)) := fun i =>
    (keeps_wake s).trans (keeps_setTrunk (wake s) _ id)
  exact .ite (fun _ => latched _) fun _ => (latched _).trans (keeps_setBadTrunkCode _)

theorem keeps_endOffer : Keeps s (endOffer s) :=
  .ite (fun _ => keeps_setTrunk s _ id) fun _ => .refl s

theorem keeps_askTest : Keeps s (askTest s) := keeps_setTrunk s _ id

theorem keeps_trunkBlock : Keeps s (trunkBlock s) := by
  have read : Keeps s (readRing s) := keeps_setTrunk s _ fun _ => movedSilence_le _ _
  refine .ite (fun _ => .ite (fun _ => read) fun _ => ?_) fun _ => .refl s
  have risen : Keeps s
      (if !trunkPresent s && trunkPresent (readRing s) then takeRise (readRing s) else readRing s) :=
    .ite (fun _ => read.trans (keeps_takeRise _)) fun _ => read
  exact .ite (fun _ => risen) fun _ => risen.trans ((keeps_endOffer _).trans (keeps_askTest _))

theorem keeps_takeOriginate : Keeps s (takeOriginate s) := by
  unfold takeOriginate
  split
  · refine Keeps.trans ?_ (keeps_ringFor _ _ _ _)
    exact keeps_setTrunk s _ id
  · exact .refl s

theorem keeps_testMade : Keeps s (testMade s) := keeps_setTrunk s _ id

theorem keeps_takeTrunkLapse : Keeps s (takeTrunkLapse s) :=
  (Keeps.ite (fun _ => keeps_ruCancel s) fun _ => .refl s).trans (keeps_setTrunk _ _ id)

/-! ## Detector and doze -/

theorem keeps_det (d : Detector) (h : 16 ≤ s.det.floor ∧ s.det.floor ≤ 65535 →
    16 ≤ d.floor ∧ d.floor ≤ 65535) : Keeps s { s with det := d } :=
  ⟨fun r => { r with floor := h r.floor }, id, .refl _, rfl, rfl, rfl⟩

theorem keeps_doze (d : Doze) (h : s.doze.count ≤ 100 → d.count ≤ 100) :
    Keeps s { s with doze := d } :=
  ⟨fun r => { r with doze := h r.doze }, id, .refl _, rfl, rfl, rfl⟩

theorem keeps_takeDozeEntry : Keeps s (takeDozeEntry s) :=
  (keeps_doze s { s.doze with dozing := true } id).trans (keeps_det _ _ id)

theorem keeps_dozeTest : Keeps s (dozeTest s) :=
  keeps_doze s _ fun _ => by
    simp only [movedDozeCount]
    split
    · exact Nat.min_le_left _ _
    · exact Nat.zero_le _

theorem keeps_noteOverdrive : Keeps s (noteOverdrive s) :=
  .ite (fun _ => keeps_conds s _ { Conditions.Within.refl s.conds with overdrive := fun _ => rfl })
    fun _ => .refl s

/-- R21: the clamp of the noise floor. -/
theorem clampFloor_inRange (f : Int) : 16 ≤ clampFloor f ∧ clampFloor f ≤ 65535 := by
  unfold clampFloor
  split_ifs <;> omega

theorem keeps_moveF (d : Decision) : Keeps s (moveF d s) :=
  keeps_det s _ fun h => by
    cases d with
    | silent | noise => exact clampFloor_inRange _
    | pair p => exact h
    | overlap | unusable => exact h

theorem keeps_newBlock : Keeps s (newBlock s) :=
  (keeps_txMarks s { s.tx with cutBlock := false } (fun l => by cases l <;> rfl) (fun _ => rfl) id
    id).trans ⟨fun h => { h with }, id, .refl _, rfl, rfl, rfl⟩

/-! ## Pins, framing, lamp -/

/-- Parts that no invariant speaks of. -/
theorem keeps_rest (pins : InputPins) (frame : Frame) (lamp : Lamp) (store : Store) :
    Keeps s { s with pins := pins, frame := frame, lamp := lamp, store := store } :=
  ⟨fun h => { h with }, id, .refl _, rfl, rfl, rfl⟩

end Sys2Proof.Machine
end

section
/-! In setup mode and in UNSET the blocks of the calls stay empty (R85, R102, R124, R147, R157). -/

namespace Sys2Proof.Machine

/-- The blocks of the calls are empty and the station awake. -/
structure CallsEmpty (s : State) : Prop where
  record : s.view.record = .free
  rings : s.view.rings = []
  pendingClear : s.view.pendingClear = none
  slot : s.answer.slot = none
  request : s.request.record = none
  pendingBreak : s.request.pendingBreak = none
  prompt : s.tx.prompt = []
  lane : s.tx.request = []
  attempt : s.tx.attempt = none
  incoming : s.trunk.incoming = .idle
  latched : s.trunk.latched = none
  doze : s.doze = ⟨false, 0⟩

/-- The part is in setup mode or in UNSET, and the blocks of the calls are empty. -/
structure Idle (s : State) : Prop extends CallsEmpty s where
  offline : inService s = false

theorem inService_eq_false_iff (s : State) :
    inService s = false ↔ s.settings = none ∨ s.link.setupMode = true := by
  unfold inService isActive
  cases s.settings <;> simp

theorem inService_congr {s t : State} (settings : t.settings = s.settings) (link : t.link = s.link) :
    inService t = inService s := by
  simp only [inService, isActive, settings, link]

theorem offlineIsEmpty_iff (s : State) :
    OfflineIsEmpty s ↔ (inService s = false → CallsEmpty s) := by
  rw [inService_eq_false_iff]
  constructor
  · intro h off
    obtain ⟨record, rings, pendingClear, slot, request, pendingBreak, prompt, lane, attempt, incoming,
      latched, doze⟩ := h off
    exact ⟨record, rings, pendingClear, slot, request, pendingBreak, prompt, lane, attempt, incoming,
      latched, doze⟩
  · intro h off
    obtain ⟨record, rings, pendingClear, slot, request, pendingBreak, prompt, lane, attempt, incoming,
      latched, doze⟩ := h off
    exact ⟨record, rings, pendingClear, slot, request, pendingBreak, prompt, lane, attempt, incoming,
      latched, doze⟩

/-- The parts that `Idle` speaks of. -/
def callItems : List Part := [.settings, .link, .view, .answer, .request, .tx, .trunk, .doze]

/-- A move that leaves the blocks of the calls alone. -/
theorem Idle.of_same {s t : State} (h : Idle s) (same : ∀ p ∈ callItems, Same p s t) : Idle t := by
  have settings : t.settings = s.settings := same .settings (by decide)
  have link : t.link = s.link := same .link (by decide)
  have view : t.view = s.view := same .view (by decide)
  have answer : t.answer = s.answer := same .answer (by decide)
  have request : t.request = s.request := same .request (by decide)
  have tx : t.tx = s.tx := same .tx (by decide)
  have trunk : t.trunk = s.trunk := same .trunk (by decide)
  have doze : t.doze = s.doze := same .doze (by decide)
  exact
    { record := view ▸ h.record
      rings := view ▸ h.rings
      pendingClear := view ▸ h.pendingClear
      slot := answer ▸ h.slot
      request := request ▸ h.request
      pendingBreak := request ▸ h.pendingBreak
      prompt := tx ▸ h.prompt
      lane := tx ▸ h.lane
      attempt := tx ▸ h.attempt
      incoming := trunk ▸ h.incoming
      latched := trunk ▸ h.latched
      doze := doze ▸ h.doze
      offline := inService_congr settings link ▸ h.offline }

theorem Idle.of_only {s t : State} (h : Idle s) {ps : List Part} (only : OnlyParts ps s t)
    (apart : ∀ p ∈ callItems, p ∉ ps) : Idle t :=
  h.of_same fun p hp => only p (apart p hp)

theorem Idle.of_voice {s t : State} (h : Idle s) (only : OnlyParts voiceParts s t) : Idle t :=
  h.of_only only (by decide)

theorem Idle.of_eq {s t : State} (h : Idle s) (eq : t = s) : Idle t := eq ▸ h

/-! ## What finds nothing to do -/

section Nothing

variable {s : State} (h : Idle s)
include h

theorem Idle.hasEntry : s.tx.hasEntry = false := by
  simp [Transmitter.hasEntry, h.prompt, h.lane]

theorem Idle.viewNotice_eq (w : LineWord) : viewNotice w s = s := by
  unfold viewNotice settlePending
  simp [h.pendingClear]

theorem Idle.auRingerFree_eq : auRingerFree s = s := by
  simp [auRingerFree, h.slot]

theorem Idle.auCycle_eq (sc : Script) : auCycle sc s = s := by
  simp [auCycle, h.slot]

theorem Idle.viewOwnClear_eq : viewOwnClear s = s := by
  unfold viewOwnClear
  rw [h.record]
  cases ownCode s <;> rfl

theorem Idle.diallingOpen_eq : diallingOpen s = false := by
  simp [diallingOpen, h.offline]

end Nothing

/-! ## Moves of an idle part -/

section Moves

variable {s : State} (h : Idle s)
include h

theorem Idle.ruSent (w : LineWord) : Idle (ruSent w s) := by
  unfold Machine.ruSent requestSent
  simp only [h.pendingBreak, h.request]
  split
  · split
    · exact h.of_voice (voice_start s _ _)
    · exact h
  all_goals exact h

theorem Idle.ruAbandoned (w : LineWord) : Idle (ruAbandoned w s) := by
  unfold Machine.ruAbandoned ringAbandoned pollAbandoned
  simp only [h.pendingBreak, h.request]
  split
  · split
    · exact h.of_voice (voice_start s _ _)
    · exact h
  all_goals exact h

theorem Idle.takeEvent (e : Event) : Idle (takeEvent e s) := by
  cases e with
  | sent o w =>
    cases o with
    | requestUnit => exact h.ruSent w
    | lineView => exact h.of_eq (h.viewNotice_eq w)
    | answerUnit | dialDecoder => exact h
  | abandoned o w c =>
    cases o with
    | requestUnit => exact h.ruAbandoned w
    | lineView => exact h.of_eq (h.viewNotice_eq w)
    | answerUnit | dialDecoder => exact h
  | lost a sc => exact h
  | finish a sc =>
    cases a with
    | requestUnit => simpa [Machine.takeEvent, takeFinish, ruFinish, h.request] using h
    | answerUnit | lineView | dialDecoder => exact h
  | ringerFree => exact h.of_eq h.auRingerFree_eq
  | heldByOthers a =>
    cases a with
    | answerUnit =>
      simpa [Machine.takeEvent, takeHeldByOthers, auHeldByOthers, h.slot] using h
    | requestUnit =>
      simpa [Machine.takeEvent, takeHeldByOthers, ruHeldByOthers, h.request] using h
    | lineView | dialDecoder => exact h

theorem Idle.inbox (es : List Event) : Idle { s with inbox := es } := { h with }

theorem Idle.drain (n : Nat) : Idle (drain n s) := by
  induction n generalizing s with
  | zero => exact h.inbox []
  | succ n ih =>
    unfold Machine.drain
    split
    · exact h
    · exact ih ((h.inbox _).takeEvent _)

theorem Idle.finish : Idle (finish s) := by
  have drained := h.drain drainFuel
  unfold Machine.finish followDial
  split
  · exact { drained with }
  · exact drained

theorem Idle.setDial (d : DialDecoder) : Idle (setDial d s) := { h with }

theorem Idle.wake : Idle (wake s) := by
  unfold Machine.wake
  split
  · exact { h with doze := rfl }
  · exact h

/-! ### Hook reports -/

theorem Idle.refreshOutputs : Idle (refreshOutputs s) := by
  have tone := privacyTone_voice { s with out.privacy := privacyTerm s } s.out.privacy (privacyTerm s)
  exact { Idle.of_voice (s := { s with out.privacy := privacyTerm s }) { h with } tone with }

theorem Idle.viewOffHook : Idle (viewOffHook s) :=
  Idle.refreshOutputs { h with }

theorem Idle.viewHangUp : Idle (viewHangUp s) := by
  have down : Idle (Machine.refreshOutputs { s with view.offHook := false }) :=
    Idle.refreshOutputs { h with }
  exact down.of_eq down.viewOwnClear_eq

theorem Idle.auOffHook : Idle (auOffHook s) := by
  unfold Machine.auOffHook
  simp only [h.slot]
  have lifted : Idle { s with answer := ⟨none, true⟩ } := { h with slot := rfl }
  exact lifted.of_voice (voice_stopNow _ _ _)

theorem Idle.auHangUp : Idle (auHangUp s) := by
  unfold Machine.auHangUp
  simp only [h.slot]
  exact { h with slot := rfl }

theorem Idle.auFlash_eq : auFlash s = s := by
  simp [auFlash, h.slot]

theorem Idle.ruOffHook : Idle (ruOffHook s) := by
  unfold Machine.ruOffHook
  simp only [h.request]
  exact { h with request := rfl }

theorem Idle.ruHangUp : Idle (ruHangUp s) := by
  unfold Machine.ruHangUp cancelBreak
  simp only [h.pendingBreak, h.request]
  exact { h with request := rfl, pendingBreak := rfl }

theorem Idle.inOrder (o : DeliveryOrder) {f g k : State → State} (hf : ∀ {u}, Idle u → Idle (f u))
    (hg : ∀ {u}, Idle u → Idle (g u)) (hk : ∀ {u}, Idle u → Idle (k u)) :
    Idle (inOrder o f g k s) := by
  cases o
  · exact hk (hg (hf h))
  · exact hg (hk (hf h))
  · exact hk (hf (hg h))
  · exact hf (hk (hg h))
  · exact hg (hf (hk h))
  · exact hf (hg (hk h))

theorem Idle.reportOffHook (o : DeliveryOrder) : Idle (reportOffHook o s) :=
  (h.of_voice (voice_engineOffHook s)).inOrder o (·.viewOffHook) (·.auOffHook) (·.ruOffHook)

theorem Idle.reportHangUp (o : DeliveryOrder) : Idle (reportHangUp o s) :=
  (h.of_voice (voice_engineHangUp s)).inOrder o (·.viewHangUp) (·.auHangUp) (·.ruHangUp)

theorem Idle.takeHangUp (o : DeliveryOrder) : Idle (takeHangUp o s) :=
  ((h.setDial _).reportHangUp o).finish

theorem Idle.endPeriod (o : DeliveryOrder) : Idle (endPeriod o s) := by
  unfold Machine.endPeriod
  simp only
  split
  · exact h.setDial _
  · split
    · rw [(h.setDial _).auFlash_eq]; exact h.setDial _
    · exact (h.setDial _).reportOffHook o

theorem Idle.changeHook (o : DeliveryOrder) : Idle (changeHook o s) := by
  unfold Machine.changeHook
  split
  · exact (h.wake.setDial _).reportOffHook o
  · exact h.setDial _
  · exact h.setDial _
  · exact h.wake.endPeriod o
  all_goals exact h

theorem Idle.takeHookChange (o : DeliveryOrder) : Idle (takeHookChange o s) := by
  unfold Machine.takeHookChange
  refine Idle.finish (Idle.changeHook ?_ o)
  split
  · exact h.takeHangUp o
  · exact h

/-! ### Scripts -/

theorem Idle.runScript (n : Nat) (v : ScriptVoice) (i : Nat) : Idle (runScript n v i s) := by
  induction n generalizing s i with
  | zero => exact h
  | succ n ih =>
    have set := fun c => h.of_voice (voice_setVoice s v c)
    have ended := h.of_voice (voice_endScript s v)
    unfold Machine.runScript
    simp only
    split
    · exact h
    · split
      · exact ended
      · exact set _
      · exact set _
      · split
        · exact ended
        · refine ih ?_ _
          unfold sendCycle
          split
          · rw [h.auCycle_eq]; exact h
          all_goals exact h
      · split
        · exact ih (set _) _
        · exact ended
      · exact ended

theorem Idle.tickVoice (v : ScriptVoice) : Idle (tickVoice v s) := by
  unfold Machine.tickVoice
  simp only
  split
  · exact h
  · split
    · exact h.of_voice (voice_setVoice s v _)
    · exact h.runScript _ _ _

/-! ### Receiver, transmitter, trunk -/

theorem Idle.breakWord : Idle (breakWord s) := by
  rw [breakWord_eq]; exact { h with }

theorem Idle.completeWord (r : WordRecord) (check : Code) (o : DeliveryOrder) :
    Idle (completeWord r check o s) := by
  unfold Machine.completeWord takeValidWord
  simp only
  split
  · split
    · split
      · rw [if_neg (by rw [Bool.not_eq_true]; exact h.offline)]; exact { h with }
      · rw [if_neg (by rw [Bool.not_eq_true]; exact h.offline)]; exact { h with }
    · exact { h with }
  · exact { h with }

theorem Idle.placeSymbol (i : Nat) (o : DeliveryOrder) : Idle (placeSymbol i o s) := by
  unfold Machine.placeSymbol
  split
  · exact h
  · split
    · unfold placeCheck
      split
      · exact h.completeWord _ _ o
      · exact h.breakWord
    · split
      · exact { h with }
      · exact h.breakWord

theorem Idle.rx (r : Receiver) : Idle { s with rx := r } := { h with }

theorem Idle.takePair (p : Pair) (inTx : Bool) : Idle (takePair p inTx s) := by
  unfold Machine.takePair acceptSymbol openWord extendSymbol
  split
  · exact h.rx _
  · split
    · simp only
      split
      · exact (h.rx _).breakWord.rx _
      · exact h.rx _
    · exact h.rx _
  · split
    · split
      · exact h
      · exact h.rx _
    · exact h.breakWord.rx _

theorem Idle.takeSilence (o : DeliveryOrder) : Idle (takeSilence o s) := by
  unfold Machine.takeSilence closeSymbol
  split
  · exact h.rx _
  · exact h.rx _
  · simp only
    split
    · exact h.rx _
    · exact (h.rx _).placeSymbol _ o

theorem Idle.rxDecide (d : Decision) (inTx : Bool) (o : DeliveryOrder) :
    Idle (rxDecide d inTx o s) := by
  have marked : Idle (markOwn inTx s) := { h with }
  unfold Machine.rxDecide
  simp only
  split
  · exact (marked.rx _).takePair _ inTx
  · exact (marked.rx _).takeSilence o
  · exact (marked.rx _).takeSilence o
  · exact (marked.rx _).breakWord.rx _
  · exact marked.rx _

theorem Idle.applyWaiting_eq : applyWaiting s = s := by
  simp [applyWaiting, h.hasEntry]

theorem Idle.txDecide (d : Decision) : Idle (txDecide d s) := by
  rw [txDecide_of_no_attempt h.attempt]
  unfold txIdleDecide
  simp only
  split
  · have moved : Idle { s with tx.quiet := movedQuiet s.tx.cutBlock s.tx.quiet d } := { h with }
    exact moved.of_eq moved.applyWaiting_eq
  · exact { h with }

theorem Idle.takeStart : Idle (takeStart s) := by
  have none_left : s.tx.candidate = none := by
    simp [Transmitter.candidate, h.prompt, h.lane, headMarked]
  unfold Machine.takeStart
  rw [none_left]
  exact { h with }

theorem Idle.trunkBlock : Idle (trunkBlock s) := by
  have read : Idle (readRing s) := { h with }
  unfold Machine.trunkBlock
  simp only
  split
  · next trunkEnd =>
    split
    · exact read
    · next outside =>
      obtain unset | setup := (inService_eq_false_iff s).mp h.offline
      · simp [isTrunkEnd, ownCode, unset] at trunkEnd
      · exact absurd setup outside
  · exact h

theorem Idle.dozeTest : Idle (dozeTest s) := by
  have awake : (Machine.dozeTest s).doze = ⟨false, 0⟩ := by
    simp [Machine.dozeTest, dozeConditions, h.offline, movedDozeCount, h.doze]
  exact { h with doze := awake }

end Moves

end Sys2Proof.Machine
end

section
/-! What every step of the part keeps, steps that stand due and boundaries among them. -/

namespace Sys2Proof.Machine

/-! ## Steady and regular steps -/

/-- A step from `s` to `t` keeps the invariants, leaves the queue as it is and no event untaken. -/
structure Steady (s t : State) : Prop where
  ranges : InRange s → InRange t
  outputs : OutputsFollowView s → OutputsFollowView t
  offline : OfflineIsEmpty s → OfflineIsEmpty t
  pending : t.pending = s.pending
  inbox : s.inbox = [] → t.inbox = []

/-- A steady step that besides clears no condition, where no CLEAR-CONDITIONS byte waits, and makes no restart due. -/
structure Regular (s t : State) : Prop extends Steady s t where
  conds : s.link.partialCmd ≠ [0x41] → s.conds.Within t.conds ∧ t.link.partialCmd ≠ [0x41]
  restart : restartDue s = false → restartDue t = false ∧ t.settings = s.settings

theorem Steady.trans {s t u : State} (h₁ : Steady s t) (h₂ : Steady t u) : Steady s u :=
  ⟨h₂.ranges ∘ h₁.ranges, h₂.outputs ∘ h₁.outputs, h₂.offline ∘ h₁.offline,
    h₂.pending.trans h₁.pending, h₂.inbox ∘ h₁.inbox⟩

theorem Regular.refl (s : State) : Regular s s :=
  ⟨⟨id, id, id, rfl, id⟩, fun h => ⟨.refl _, h⟩, fun h => ⟨h, rfl⟩⟩

theorem Regular.trans {s t u : State} (h₁ : Regular s t) (h₂ : Regular t u) : Regular s u where
  toSteady := h₁.toSteady.trans h₂.toSteady
  conds h := ⟨(h₁.conds h).1.trans (h₂.conds (h₁.conds h).2).1, (h₂.conds (h₁.conds h).2).2⟩
  restart h :=
    ⟨(h₂.restart (h₁.restart h).1).1, (h₂.restart (h₁.restart h).1).2.trans (h₁.restart h).2⟩

theorem Regular.ite {s t u : State} {c : Prop} [Decidable c] (h₁ : c → Regular s t)
    (h₂ : ¬c → Regular s u) : Regular s (if c then t else u) := by
  split
  · exact h₁ ‹_›
  · exact h₂ ‹_›

/-- A restart's being due depends on the Setup Link alone. -/
theorem restartDue_congr {s t : State} (link : t.link = s.link) : restartDue t = restartDue s := by
  simp only [restartDue, link]

/-- A move of the blocks of the calls, of which an idle part makes nothing, is regular. -/
theorem Keeps.regular {s t : State} (h : Keeps s t) (idle : Idle s → Idle t)
    (inbox : s.inbox = [] → t.inbox = []) : Regular s t where
  ranges := h.ranges
  outputs := h.outputs
  offline := by
    rw [offlineIsEmpty_iff, offlineIsEmpty_iff, inService_congr h.settings h.link]
    exact fun empty off => (idle ⟨empty off, off⟩).toCallsEmpty
  pending := h.pending
  inbox := inbox
  conds p := ⟨h.conds, h.link ▸ p⟩
  restart r := ⟨restartDue_congr h.link ▸ r, h.settings⟩

/-- A move and its events, of which an idle part makes nothing. -/
theorem Keeps.regular_finish {s t : State} (h : Keeps s t) (idle : Idle s → Idle t) :
    Regular s (finish t) :=
  (h.trans (keeps_finish t)).regular (fun i => (idle i).finish) fun _ => finish_inbox t

section Due

variable {s : State} {due : State → Bool} {take : State → State}

theorem regular_whenDue (h : due s = true → Regular s (take s)) : Regular s (whenDue due take s) :=
  .ite h fun _ => .refl s

/-- A step that is never due in an idle part. -/
theorem regular_whenBusy (h : due s = true → Keeps s (take s)) (quiet : Idle s → due s = false)
    (inbox : s.inbox = [] → (take s).inbox = []) : Regular s (whenDue due take s) :=
  regular_whenDue fun d => (h d).regular (fun i => by rw [quiet i] at d; cases d) inbox

/-- A step that is never due in an idle part, and its events. -/
theorem regular_whenBusyFinish (h : due s = true → Keeps s (take s))
    (quiet : Idle s → due s = false) : Regular s (whenDueFinish due take s) :=
  .ite (fun d => (h d).regular_finish fun i => by rw [quiet i] at d; cases d) fun _ => .refl s

end Due

variable (s : State)

/-! ## Receiver and transmitter -/

theorem breakWord_inbox : (breakWord s).inbox = s.inbox := by
  rw [breakWord_eq]

theorem regular_settleUnusable : Regular s (settleUnusable s) :=
  regular_whenDue fun _ =>
    (keeps_takeUnusableLimit s).regular (fun i => (i.breakWord.rx _).rx _)
      (breakWord_inbox s).trans

theorem regular_settleOverLong : Regular s (settleOverLong s) :=
  regular_whenDue fun _ =>
    (keeps_takeOverLong s).regular (fun i => i.breakWord.rx _) (breakWord_inbox s).trans

theorem regular_settleStuck : Regular s (settleStuck s) :=
  regular_whenDue fun _ => by
    refine (keeps_takeStuckTone s).regular (fun i => ?_) fun e => ?_
    · have marked : Idle (setStuckTone s) := { i with }
      have dropped : Idle (dropOpening (setStuckTone s)) := by
        unfold dropOpening
        split
        · split
          · exact marked.rx _
          · exact marked
        · exact marked
      exact dropped.rx _
    · unfold takeStuckTone dropOpening
      split
      · split <;> exact e
      · exact e

theorem regular_settleGapLimit : Regular s (settleGapLimit s) :=
  regular_whenDue fun _ => (keeps_breakWord s).regular (·.breakWord) (breakWord_inbox s).trans

theorem regular_settleReceiver : Regular s (settleReceiver s) :=
  ((regular_settleUnusable s).trans (regular_settleOverLong _)).trans
    ((regular_settleStuck _).trans (regular_settleGapLimit _))

theorem lineHold_inbox (p : Pair) : (lineHold p s).inbox = s.inbox := by
  unfold lineHold; split <;> rfl

theorem startAttempt_inbox (l : Lane) (c : Bool) : (startAttempt l c s).inbox = s.inbox :=
  lineHold_inbox _ _

theorem regular_settleBackOff : Regular s (settleBackOff s) :=
  regular_whenDue fun _ => by
    refine (keeps_takeBackOffEnd s).regular (fun i => ?_) fun e => ?_
    · have ended : Idle { s with tx.backOffDue := false } := { i with }
      exact ended.of_eq ended.applyWaiting_eq
    · unfold takeBackOffEnd applyWaiting
      split
      · split <;> exact e
      · exact e

theorem regular_settleStart : Regular s (settleStart s) :=
  regular_whenDue fun due => by
    simp only [checkedStartDue, Bool.and_eq_true, Option.isNone_iff_eq_none] at due
    refine (keeps_takeStart s due.2).regular (·.takeStart) fun e => ?_
    unfold takeStart
    split
    · rw [startAttempt_inbox, e]
    · exact e

theorem Idle.talkOverDue_eq {s : State} (h : Idle s) : talkOverDue s = false := by
  simp [talkOverDue, h.prompt, headWaited]

theorem regular_settleTalkOver : Regular s (settleTalkOver s) :=
  regular_whenBusy
    (fun due => by
      simp only [talkOverDue, Bool.and_eq_true, Option.isNone_iff_eq_none] at due
      exact keeps_startAttempt s due.1 _ _)
    (·.talkOverDue_eq) (startAttempt_inbox s _ _).trans

theorem regular_settleRequestWait : Regular s (settleRequestWait s) :=
  regular_whenBusyFinish (keeps_takeRequestWaitLimit s) fun i => by
    simp [requestWaitDue, i.lane, headWaited]

theorem regular_settleTransmitter : Regular s (settleTransmitter s) :=
  ((regular_settleBackOff s).trans (regular_settleStart _)).trans
    ((regular_settleTalkOver _).trans (regular_settleRequestWait _))

/-! ## Scripts, hook and dial -/

theorem regular_settleScript (v : ScriptVoice) : Regular s (settleScript v s) :=
  regular_whenDue fun _ => (keeps_runScript s _ v _).regular_finish (·.runScript _ v _)

theorem regular_settleHangUp (o : DeliveryOrder) : Regular s (settleHangUp o s) :=
  regular_whenDue fun _ => (keeps_takeHangUp s o).regular (·.takeHangUp o) fun _ => finish_inbox _

theorem regular_settleHookChange (o : DeliveryOrder) : Regular s (settleHookChange o s) :=
  regular_whenDue fun _ =>
    (keeps_takeHookChange s o).regular (·.takeHookChange o) fun _ => finish_inbox _

theorem regular_settlePulse : Regular s (settlePulse s) :=
  regular_whenDue fun due => (keeps_takePulse s due).regular (·.setDial _) id

theorem regular_settleInvalidDigit : Regular s (settleInvalidDigit s) :=
  regular_whenBusy (fun _ => keeps_takeInvalidDigit s)
    (fun i => by simp [invalidDigitDue, readingDigit, i.diallingOpen_eq]) fun _ => finish_inbox _

theorem regular_settleDigitEnd : Regular s (settleDigitEnd s) :=
  regular_whenBusy (fun _ => keeps_takeDigitEnd s)
    (fun i => by simp [digitEndDue, i.diallingOpen_eq]) fun _ => finish_inbox _

theorem regular_settleBarredRelease : Regular s (settleBarredRelease s) :=
  regular_whenDue fun _ => (keeps_setDial s { s.dial with state := .idle } id).regular
    (·.setDial _) id

theorem regular_settleDigitWait : Regular s (settleDigitWait s) :=
  regular_whenBusy (fun _ => keeps_takeDigitWait s)
    (fun i => by simp [digitWaitDue, i.diallingOpen_eq]) fun _ => finish_inbox _

theorem regular_settleLocal : Regular s (settleLocal s) :=
  (regular_settleScript s .earpiece).trans <| (regular_settleScript _ .ringer).trans <|
    (regular_settleHangUp _ _).trans <| (regular_settleHookChange _ _).trans <|
    (regular_settleInvalidDigit _).trans <| (regular_settlePulse _).trans <|
    (regular_settleDigitEnd _).trans <| (regular_settleBarredRelease _).trans <|
    regular_settleDigitWait _

/-! ## View, slot, record, trunk -/

theorem regular_settleLineIdle : Regular s (settleLineIdle s) :=
  regular_whenBusyFinish (fun _ => keeps_setView s _) fun i => by
    simp [lineIdleDue, i.record]

section Slot

theorem Idle.slotTimeOver_eq {s : State} (h : Idle s) : slotTimeOver s = false := by
  simp [slotTimeOver, h.slot]

theorem regular_settleCompletionHold : Regular s (settleCompletionHold s) :=
  regular_whenBusyFinish (fun _ => keeps_takeCompletionHold s) fun i => by
    simp [completionHoldDue, i.slotTimeOver_eq]

theorem regular_settleLinger : Regular s (settleLinger s) :=
  regular_whenBusyFinish (fun _ => keeps_takeLinger s) fun i => by
    simp [lingerDue, i.slotTimeOver_eq]

theorem regular_settlePollLoss : Regular s (settlePollLoss s) :=
  regular_whenBusyFinish (fun _ => keeps_takePollLoss s) fun i => by
    simp [pollLossDue, i.slotTimeOver_eq]

theorem regular_settleSlot : Regular s (settleSlot s) :=
  ((regular_settleCompletionHold s).trans (regular_settleLinger _)).trans (regular_settlePollLoss _)

end Slot

section Record

theorem Idle.expired_eq {s : State} (h : Idle s) (st : RequestState) (w : RequestWait) :
    expired st w s = false := by
  simp [expired, h.request]

theorem regular_settleRingReply : Regular s (settleRingReply s) :=
  regular_whenBusyFinish (fun _ => keeps_takeRingReply s) fun i => i.expired_eq _ _

theorem regular_settleDelay : Regular s (settleDelay s) :=
  regular_whenBusyFinish (fun _ => keeps_takeDelay s) fun i => i.expired_eq _ _

theorem regular_settlePollReply : Regular s (settlePollReply s) :=
  regular_whenBusyFinish (fun _ => keeps_takePollReply s) fun i => i.expired_eq _ _

theorem regular_settleRevert : Regular s (settleRevert s) :=
  regular_whenBusyFinish (fun _ => keeps_takeRevert s) fun i => i.expired_eq _ _

theorem regular_settleShow : Regular s (settleShow s) :=
  regular_whenBusyFinish (fun _ => keeps_takeShow s) fun i => by simp [showExpired, i.request]

theorem regular_settleRecord : Regular s (settleRecord s) :=
  (regular_settleRingReply s).trans <| (regular_settleDelay _).trans <|
    (regular_settlePollReply _).trans <| (regular_settleRevert _).trans <| regular_settleShow _

end Record

theorem regular_settleOriginate : Regular s (settleOriginate s) :=
  regular_whenBusyFinish (fun _ => keeps_takeOriginate s) fun i => by
    simp [originateDue, offerableCode, i.latched]

theorem regular_settleTest : Regular s (settleTest s) :=
  (regular_settleOriginate s).trans ((keeps_testMade _).regular (fun i => { i with }) id)

theorem regular_settleTrunkLapse : Regular s (settleTrunkLapse s) :=
  regular_whenBusyFinish (fun _ => keeps_takeTrunkLapse s) fun i => by
    simp [trunkLapseDue, i.incoming]

theorem regular_settleCalls : Regular s (settleCalls s) :=
  (regular_settleLineIdle s).trans <| (regular_settleSlot _).trans <|
    (regular_settleRecord _).trans <| (regular_settleTrunkLapse _).trans <| regular_settleTest _

/-! ## Doze and store -/

theorem regular_settleDozeEntry : Regular s (settleDozeEntry s) :=
  regular_whenBusy (fun _ => keeps_takeDozeEntry s) (fun i => by simp [dozeEntryDue, i.doze]) id

theorem regular_store (x : Store) : Regular s { s with store := x } :=
  (keeps_rest s s.pins s.frame s.lamp x).regular (fun i => { i with }) id

theorem regular_settleErase : Regular s (settleErase s) :=
  regular_whenDue fun _ => by
    unfold takeEraseComplete
    split <;> exact regular_store s _

theorem regular_settleWrite : Regular s (settleWrite s) :=
  regular_whenDue fun _ => by
    unfold takeWriteComplete
    split <;> exact regular_store s _

theorem regular_settleStore : Regular s (settleStore s) :=
  (regular_settleErase s).trans (regular_settleWrite _)

/-! ## The Setup Link -/

/-- A step of the Setup Link that leaves setup mode as it is. -/
theorem regular_link (l : SetupLink) (mode : l.setupMode = s.link.setupMode)
    (powerOn : s.link.powerOn ≤ 6000 → l.powerOn ≤ 6000) (gap : s.link.gap ≤ 10 → l.gap ≤ 10)
    (bytes : s.link.partialCmd ≠ [0x41] → l.partialCmd ≠ [0x41])
    (restart : restartDue s = false → restartDue { s with link := l } = false) :
    Regular s { s with link := l } where
  ranges h := { h with powerOn := powerOn h.powerOn, gap := gap h.gap }
  outputs := id
  offline h off := h (mode ▸ off)
  pending := rfl
  inbox := id
  conds h := ⟨.refl _, bytes h⟩
  restart h := ⟨restart h, rfl⟩

theorem regular_reply (st : Status) (data : List Byte) : Regular s (reply st data s) :=
  regular_link s _ rfl id id id fun _ => by simp [restartDue]

theorem regular_acceptRestart : Regular s (acceptRestart s) :=
  regular_link s _ rfl id id id fun _ => by simp [restartDue]

theorem regular_dropPartial : Regular s (dropPartial s) :=
  regular_link s _ rfl id (fun _ => Nat.zero_le _) (fun _ => by simp) id

/-- R84: the transmitter at reset, and offline, is in range. -/
theorem txInRange_offline (t : Transmitter) : TxInRange t.offline :=
  ⟨Nat.zero_le _, Nat.zero_le _, fun l => by
    cases l <;> exact laneInRange_of_queued (Nat.zero_le _) (by
      simp [Transmitter.entries, Transmitter.offline, Transmitter.reset])⟩

/-- A view that is FREE, with both outputs off. -/
theorem outputsFollowView_free (record : s.view.record = .free) (privacy : s.out.privacy = false)
    (trunkConnect : s.out.trunkConnect = false) : OutputsFollowView s := by
  simp [OutputsFollowView, record, privacy, trunkConnect]

theorem callsEmpty_goOffline : CallsEmpty (goOffline s) :=
  ⟨rfl, rfl, rfl, rfl, rfl, rfl, rfl, rfl, rfl, rfl, rfl, rfl⟩

theorem regular_goOffline : Regular s (goOffline s) where
  ranges h :=
    { h with
      engine :=
        { h.engine with
          ear := scriptVoiceInRange_idled h.engine.ear
          bell := scriptVoiceInRange_idled h.engine.bell }
      tx := txInRange_offline s.tx
      idle := Nat.zero_le _
      slot := by simp [goOffline]
      record := by simp [goOffline]
      dial := dialInRange_discard h.dial
      doze := Nat.zero_le _ }
  outputs _ := outputsFollowView_free _ rfl rfl rfl
  offline _ := (offlineIsEmpty_iff _).mpr fun _ => callsEmpty_goOffline s
  pending := rfl
  inbox := id
  conds h := ⟨.refl _, h⟩
  restart h := ⟨h, rfl⟩

theorem regular_unlessBusy (f : State → State) (h : Regular s (f s)) : Regular s (unlessBusy f s) :=
  .ite (fun _ => regular_reply s _ _) fun _ => h

theorem regular_judgeEnter : Regular s (judgeEnter s) :=
  .ite (fun _ => regular_reply s _ _) fun _ =>
    .ite (fun _ => (regular_goOffline s).trans (regular_reply _ _ _)) fun _ => regular_reply s _ _

theorem regular_judgeWrite (n v : Byte) : Regular s (judgeWrite n v s) :=
  regular_unlessBusy s _ <| Regular.trans
    (.ite (fun _ => regular_store s _) fun _ => .refl s) (regular_reply _ _ _)

/-- R163: every command but CLEAR-CONDITIONS is regular. -/
theorem regular_carryOut (c : SetupCommand) (h : c ≠ .clearConditions) : Regular s (carryOut c s) := by
  have busy : ∀ {t}, Regular s t → Regular s (if storeBusy s then reply .busy [] s else t) :=
    fun h => .ite (fun _ => regular_reply s _ _) fun _ => h
  cases c with
  | read n =>
    exact busy <| .ite (fun _ => regular_reply s _ _) fun _ => regular_reply s _ _
  | enterSetup => exact regular_judgeEnter s
  | leaveSetup =>
    exact busy <|
      .ite (fun _ => regular_acceptRestart s) fun _ => regular_reply s _ _
  | erase =>
    exact busy <|
      .ite (fun _ => (regular_store s _).trans (regular_reply _ _ _)) fun _ => regular_reply s _ _
  | write n v => exact regular_judgeWrite s n v
  | conditions => exact regular_reply s _ _
  | clearConditions => exact absurd rfl h
  | stateReport => exact regular_reply s _ _
  | restart => exact busy (regular_acceptRestart s)
  | bad b => exact regular_reply s _ _

/-- CLEAR-CONDITIONS keeps the invariants and makes no restart due. -/
theorem steady_judgeClear : Steady s (judgeClear s) :=
  Steady.trans (t := { s with conds := .clear }) ⟨fun h => { h with }, id, id, rfl, id⟩
    (regular_reply _ _ _).toSteady

theorem steady_carryOut (c : SetupCommand) : Steady s (carryOut c s) := by
  by_cases h : c = .clearConditions
  · subst h; exact steady_judgeClear s
  · exact (regular_carryOut s c h).toSteady

/-- R163: the byte 0x41 alone is CLEAR-CONDITIONS. -/
theorem completedCommand_clear {bytes : List Byte}
    (h : completedCommand bytes = some .clearConditions) : bytes = [0x41] := by
  unfold completedCommand oneByteCommand at h
  split at h
  · split_ifs at h <;> simp_all
  · split_ifs at h; simp_all
  · split_ifs at h; simp_all
  · cases h

theorem regular_takeCommand : Regular s (takeCommand s) := by
  unfold takeCommand
  split
  · next c complete =>
    by_cases h : c = .clearConditions
    · subst h
      have dropped := regular_dropPartial s
      exact
        { toSteady := dropped.toSteady.trans (steady_judgeClear _)
          conds := fun waits => absurd (completedCommand_clear complete) waits
          restart := fun r => ⟨by simp [carryOut, judgeClear, reply, restartDue], rfl⟩ }
    · exact (regular_dropPartial s).trans (regular_carryOut _ c h)
  · exact .refl s

theorem regular_finish : Regular s (finish s) := (Keeps.refl s).regular_finish id

theorem regular_settleCommand : Regular s (settleCommand s) :=
  .ite (fun _ => (regular_takeCommand s).trans (regular_finish _)) fun _ => .refl s

theorem regular_settleGapTimeout : Regular s (settleGapTimeout s) :=
  regular_whenDue fun _ => regular_dropPartial s

theorem regular_settleBytes : Regular s (settleBytes s) :=
  (regular_settleCommand s).trans (regular_settleGapTimeout _)

theorem regular_settleWindowClose : Regular s (settleWindowClose s) :=
  regular_whenDue fun _ => regular_link s _ rfl (fun _ => Nat.le_refl 6000) id id id

theorem regular_settleLink : Regular s (settleLink s) :=
  (regular_settleWindowClose s).trans (regular_settleBytes _)

theorem regular_settleReplyStart : Regular s (settleReplyStart s) :=
  regular_whenDue fun _ => by
    unfold takeReplyStart
    split
    · exact .refl s
    · exact regular_link s _ rfl id id id fun _ => by simp [restartDue]

theorem regular_settleButRestart : Regular s (settleButRestart s) :=
  (regular_settleLink s).trans <| (regular_settleLocal _).trans <|
    (regular_settleReceiver _).trans <| (regular_settleCalls _).trans <|
    (regular_settleTransmitter _).trans <| (regular_settleDozeEntry _).trans <|
    (regular_settleStore _).trans <| regular_settleReplyStart _

/-- R163: bytes of the command's own row. -/
theorem regular_wake : Regular s (wake s) :=
  (keeps_wake s).regular (·.wake) fun e => by unfold wake; split <;> exact e

theorem steady_arriveCommand (c : SetupCommand) : Steady s (arriveCommand c s) := by
  unfold arriveCommand
  split
  · exact (regular_settleCommand s).toSteady
  · refine (regular_settleBytes s).toSteady.trans (Steady.trans ?_ (regular_finish _).toSteady)
    unfold receiveRest
    split
    · exact ((regular_wake _).trans (regular_dropPartial _)).toSteady.trans (steady_carryOut _ c)
    · exact (Regular.refl _).toSteady

theorem regular_arriveCommand (c : SetupCommand) (h : c ≠ .clearConditions) :
    Regular s (arriveCommand c s) :=
  .ite (fun _ => regular_settleCommand s) fun _ =>
    (regular_settleBytes s).trans <| Regular.trans
      (.ite (fun _ => ((regular_wake _).trans (regular_dropPartial _)).trans (regular_carryOut _ c h))
        fun _ => .refl _)
      (regular_finish _)

/-! ## The starts -/

theorem engineInRange_reset : EngineInRange .reset := by
  constructor <;> decide

/-- R161: a power-on reset and a restart leave every block at its reset value. -/
theorem inRange_startUp (cold : Bool) (h : InRange s) : InRange (startUp cold s) where
  floor := ⟨(by decide : 16 ≤ 64), (by decide : 64 ≤ 65535)⟩
  engine := engineInRange_reset
  tx := txInRange_offline .reset
  idle := Nat.zero_le _
  slot := by simp [startUp, State.reset, AnswerUnit.reset]
  record := by simp [startUp, State.reset, RequestUnit.reset]
  dial := by
    have resets : ∀ b, DialInRange (.atStart b) := by
      intro b
      cases b <;> exact ⟨Nat.zero_le _, Nat.zero_le _, Nat.zero_le _, Nat.zero_le _, Nat.zero_le _,
        Nat.zero_le _, by simp [DialDecoder.atStart, DialDecoder.reset]⟩
    exact resets _
  silence := Nat.le_refl 300
  settings _ hv := settingsInRange_of_page hv
  powerOn := by
    cases cold
    · exact h.powerOn
    · exact Nat.zero_le _
  gap := by cases cold <;> exact Nat.zero_le _
  doze := Nat.zero_le _

theorem steady_startUp (cold : Bool) : Steady s (startUp cold s) where
  ranges := inRange_startUp s cold
  outputs _ := outputsFollowView_free _ rfl rfl rfl
  offline _ := (offlineIsEmpty_iff _).mpr fun _ =>
    ⟨rfl, rfl, rfl, rfl, rfl, rfl, rfl, rfl, rfl, rfl, rfl, rfl⟩
  pending := rfl
  inbox _ := rfl

/-- A restart that is due keeps the conditions. -/
theorem regular_restart (due : restartDue s = true) : Regular s (startUp false s) where
  toSteady := steady_startUp s false
  conds _ := ⟨.refl _, by simp [startUp, SetupLink.restarted, SetupLink.reset]⟩
  restart h := by rw [h] at due; cases due

theorem regular_settleRestart : Regular s (settleRestart s) := regular_whenDue (regular_restart s)

theorem regular_settle : Regular s (settle s) :=
  (regular_settleButRestart s).trans (regular_settleRestart _)

/-! ## Tick and block end -/

theorem regular_atBoundary (present work : State → State) (hp : ∀ u, Regular u (present u))
    (hw : ∀ u, Regular u (work u)) : Regular s (atBoundary present work s) :=
  ((regular_settleButRestart s).trans (hp _)).trans (.ite (regular_restart _) fun _ => hw _)

/-- A step that touches only parts no invariant speaks of. -/
theorem regular_rest (pins : InputPins) (frame : Frame) (lamp : Lamp) :
    Regular s { s with pins := pins, frame := frame, lamp := lamp } :=
  (keeps_rest s pins frame lamp s.store).regular (fun i => { i with }) id

theorem regular_tickLink : Regular s (tickLink s) := by
  have counted : s.link.tickCount.powerOn ≤ 6000 ∨ s.link.tickCount.powerOn = s.link.powerOn := by
    unfold SetupLink.tickCount
    split
    · exact .inl (by simp only; omega)
    · split <;> exact .inr rfl
  have same : s.link.tickCount.setupMode = s.link.setupMode ∧
      s.link.tickCount.partialCmd = s.link.partialCmd ∧
      s.link.tickCount.awaitRestart = s.link.awaitRestart ∧
      s.link.tickCount.sending = s.link.sending ∧ s.link.tickCount.replies = s.link.replies := by
    unfold SetupLink.tickCount
    split
    · exact ⟨rfl, rfl, rfl, rfl, rfl⟩
    · split <;> exact ⟨rfl, rfl, rfl, rfl, rfl⟩
  obtain ⟨mode, bytes, await, sending, replies⟩ := same
  refine regular_link s _ mode (fun h => ?_) (fun h => (Nat.sub_le _ _).trans h)
    (fun h => by simpa only [bytes] using h) fun h => ?_
  · obtain le | eq := counted
    · exact le
    · exact eq ▸ h
  · simpa only [restartDue, await, sending, replies] using h

theorem regular_tickWork : Regular s (tickWork s) := by
  have voices : Regular s (finish (tickVoice .ringer (tickVoice .earpiece s))) :=
    ((keeps_tickVoice s _).trans (keeps_tickVoice _ _)).regular_finish
      fun i => (i.tickVoice _).tickVoice _
  have hook : ∀ u, Regular u (tickHook u) := fun u =>
    (keeps_tickHook u).regular
      (fun i => by unfold tickHook; split <;> first | exact i | exact i.setDial _)
      fun e => by unfold tickHook; split <;> exact e
  have dial : ∀ u, Regular u (tickDial u) := fun u =>
    (keeps_tickDial u).regular
      (fun i => by unfold tickDial; rw [i.diallingOpen_eq]; exact i)
      fun e => by
        unfold tickDial
        simp only
        split
        · split <;> exact e
        · exact e
  exact voices.trans <| (hook _).trans <| (dial _).trans <| (regular_tickLink _).trans <|
    regular_rest _ _ _ _

theorem regular_takeTick (h d : Bool) : Regular s (takeTick h d s) :=
  regular_whenDue fun _ => regular_atBoundary s _ _ (fun u => regular_rest u _ _ _) fun u =>
    (regular_tickWork u).trans <| (regular_finish _).trans <| regular_rest _ _ _ _

theorem regular_onlyIf (b : Bool) (f : State → State) (h : ∀ u, Regular u (f u)) :
    Regular s (onlyIf b f s) :=
  .ite (fun _ => h s) fun _ => .refl s

theorem regular_viewReading (loaded : Bool) : Regular s (viewReading loaded s) :=
  (keeps_viewReading s loaded).regular (fun i => { i with }) id

theorem regular_lineTimers : Regular s (lineTimers s) :=
  ((keeps_tickSlot s).trans (keeps_tickRecord _)).regular
    (fun i => { i with
      slot := by simp [tickRecord, tickSlot, i.slot]
      request := by simp [tickRecord, tickSlot, i.request] }) id

theorem takeRise_inbox : (takeRise s).inbox = s.inbox := by
  have woken : (wake s).inbox = s.inbox := by unfold wake; split <;> rfl
  unfold takeRise
  simp only
  split <;> exact woken

theorem trunkBlock_inbox : (trunkBlock s).inbox = s.inbox := by
  have ended : ∀ u, (askTest (endOffer u)).inbox = u.inbox := fun u => by
    unfold endOffer; split <;> rfl
  have risen : ∀ (c : Bool) u, (if c then takeRise u else u).inbox = u.inbox := fun c u => by
    cases c
    · rfl
    · exact takeRise_inbox u
  have lapsed : ∀ u, u.inbox = s.inbox →
      (if trunkLapseDue u then u else askTest (endOffer u)).inbox = s.inbox := fun u e => by
    split
    · exact e
    · rw [ended, e]
  unfold trunkBlock
  simp only
  split
  · split
    · rfl
    · exact lapsed _ (risen _ _)
  · rfl

theorem regular_trunkBlock : Regular s (trunkBlock s) :=
  (keeps_trunkBlock s).regular (·.trunkBlock) (trunkBlock_inbox s).trans

theorem regular_beforeDecision (o : EndOrder) : Regular s (beforeDecision o s) :=
  (regular_onlyIf s _ _ fun u => (regular_viewReading u _).trans (regular_settleLineIdle _)).trans <|
    (regular_onlyIf _ _ _ regular_settleSlot).trans <|
    (regular_onlyIf _ _ _ regular_settleRecord).trans <|
    regular_onlyIf _ _ _ fun u => (regular_trunkBlock u).trans <|
      (regular_settleTrunkLapse _).trans (regular_settleTest _)

theorem regular_afterDecision (o : EndOrder) : Regular s (afterDecision o s) :=
  (regular_onlyIf s _ _ fun u => regular_viewReading u _).trans
    (regular_onlyIf _ _ _ regular_trunkBlock)

theorem regular_noteOverdrive : Regular s (noteOverdrive s) :=
  (keeps_noteOverdrive s).regular
    (fun i => by unfold noteOverdrive; split <;> first | exact i | exact { i with })
    fun e => by unfold noteOverdrive; split <;> exact e

theorem regular_handOn (d : Decision) (inTx : Bool) (o : EndOrder) :
    Regular s (handOn d inTx o s) := by
  have receives : ∀ u, Regular u (receive d inTx o u) := fun u =>
    (keeps_rxDecide u d inTx o.delivery).regular_finish (·.rxDecide d inTx o.delivery)
  have transmits : ∀ u, Regular u (transmit d u) := fun u =>
    (keeps_txDecide u d).regular_finish (·.txDecide d)
  exact .ite (fun _ => (transmits s).trans (receives _)) fun _ => (receives s).trans (transmits _)

theorem regular_decideBlock (inTx : Bool) (o : EndOrder) : Regular s (decideBlock inTx o s) := by
  unfold decideBlock
  split
  · exact (regular_noteOverdrive s).trans <|
      ((keeps_moveF _ _).regular (fun i => { i with }) id).trans (regular_handOn _ _ _ _)
  · exact .ite (fun _ => (regular_noteOverdrive s).trans
      (.ite (fun _ => regular_wake _) fun _ => .refl _)) fun _ => .refl s

theorem regular_blockWork (o : EndOrder) : Regular s (blockWork o s) :=
  (regular_lineTimers s).trans <| (regular_beforeDecision _ o).trans <|
    (regular_decideBlock _ _ o).trans <| (regular_afterDecision _ o).trans <|
    (regular_finish _).trans <|
    (regular_onlyIf _ _ _ fun u => (keeps_dozeTest u).regular (·.dozeTest) id).trans <|
    (keeps_newBlock _).regular (fun i => { i with }) id

theorem regular_takeBlockEnd (l r : Bool) (c : Code) (o : EndOrder) :
    Regular s (takeBlockEnd l r c o s) :=
  regular_whenDue fun _ => regular_atBoundary s _ _ (fun u => regular_rest u _ _ _)
    fun u => regular_blockWork u o

end Sys2Proof.Machine
end

section
/-! What every command keeps: the statements about the machine as a whole. -/

namespace Sys2Proof.Machine

variable (s : State)

/-! ## Samples and bytes -/

theorem engineInRange_advanced {e : Engine} (h : EngineInRange e) :
    EngineInRange
      { e with
        v0 := e.v0.advanced
        v1 := e.v1.advanced
        ear := e.ear.advanced
        bell := e.bell.advanced } where
  v0 := lineVoiceInRange_advanced h.v0
  v1 := lineVoiceInRange_advanced h.v1
  ear := scriptVoiceInRange_advanced h.ear
  bell := scriptVoiceInRange_advanced h.bell

theorem detector_take_floor (d : Detector) (x : Int) : (d.take x).floor = d.floor := by
  unfold Detector.take
  split
  · rfl
  · split <;> rfl

theorem steady_sampleWork (x : Int) : Steady s (sampleWork x s) where
  ranges h :=
    { h with
      floor := by simpa [sampleWork, produceOutputs, sampleTime, detector_take_floor] using h.floor
      engine := engineInRange_advanced h.engine }
  outputs := id
  offline := id
  pending := rfl
  inbox := id

theorem sampleWork_conds (x : Int) : (sampleWork x s).conds = s.conds := rfl

theorem sampleWork_settings (x : Int) : (sampleWork x s).settings = s.settings := rfl

theorem regular_overdue : Regular s (settle (overdueBlock (overdueTick s))) :=
  (regular_takeTick s _ _).trans <| (regular_takeBlockEnd _ _ _ _ _).trans (regular_settle _)

theorem steady_takeByte (b : Byte) (stopHigh : Bool) : Steady s (takeByte b stopHigh s) := by
  unfold takeByte
  split
  · exact (Regular.refl s).toSteady
  · split
    · exact ⟨fun h => { h with gap := Nat.le_refl 10 }, id, id, rfl, id⟩
    · exact (regular_dropPartial s).toSteady

theorem takeByte_conds (b : Byte) (stopHigh : Bool) : (takeByte b stopHigh s).conds = s.conds := by
  unfold takeByte
  split
  · rfl
  · split <;> rfl

theorem takeByte_settings (b : Byte) (stopHigh : Bool) :
    (takeByte b stopHigh s).settings = s.settings := by
  unfold takeByte
  split
  · rfl
  · split <;> rfl

/-! ## The supply -/

theorem steady_cutShort : Steady s (cutShort s) := by
  unfold cutShort
  split
  · exact (Regular.refl s).toSteady
  · exact ⟨fun h => { h with }, id, id, rfl, id⟩
  · exact ⟨fun h => { h with }, id, id, rfl, id⟩

theorem inRange_reset : InRange .reset where
  floor := by decide
  engine := engineInRange_reset
  tx := txInRange_offline .reset
  idle := Nat.zero_le _
  slot := by simp [State.reset, AnswerUnit.reset]
  record := by simp [State.reset, RequestUnit.reset]
  dial := ⟨Nat.zero_le _, Nat.zero_le _, Nat.zero_le _, Nat.zero_le _, Nat.zero_le _,
    Nat.zero_le _, by simp [State.reset, DialDecoder.reset]⟩
  silence := Nat.le_refl 300
  settings := by simp [State.reset]
  powerOn := Nat.zero_le _
  gap := Nat.zero_le _
  doze := Nat.zero_le _

theorem steady_powerDown : Steady s (powerDown s) where
  ranges _ := { inRange_reset with }
  outputs _ := outputsFollowView_free _ rfl rfl rfl
  offline _ _ := ⟨rfl, rfl, rfl, rfl, rfl, rfl, rfl, rfl, rfl, rfl, rfl, rfl⟩
  pending := rfl
  inbox _ := rfl

/-! ## Every command -/

theorem exec_lineSample (x : Int) :
    exec (.lineSample x) s = .next (if s.powered then takeSample x s else s) := rfl

theorem exec_setupByte (b : Byte) (high : Bool) :
    exec (.setupByte b high) s =
      .next (if s.powered then takeByte b high (settleBytes s) else s) := rfl

theorem arriveCommand_settings (c : SetupCommand) : (arriveCommand c s).settings = s.settings :=
  step_arriveCommand s c .settings (by decide)

/-- A command whose whole work is regular. -/
def isRegular : Instr → Bool
  | .powerOnReset | .powerFail | .lineSample _ | .setupByte .. | .clearConditions => false
  | _ => true

theorem act_regular {f : State → State} (h : ∀ u, Regular u (f u)) :
    ∃ t, act f s = .next t ∧ Regular s t :=
  ⟨_, rfl, .ite (fun _ => h s) fun _ => .refl s⟩

theorem act_steady {f : State → State} (h : ∀ u, Steady u (f u)) :
    ∃ t, act f s = .next t ∧ Steady s t := by
  refine ⟨_, rfl, ?_⟩
  split
  · exact h s
  · exact (Regular.refl s).toSteady

theorem exec_regular {c : Instr} (h : isRegular c = true) :
    ∃ t, exec c s = .next t ∧ Regular s t := by
  cases c with
  | powerOnReset | powerFail | lineSample | setupByte | clearConditions => cases h
  | blockEnd => exact act_regular s fun u => regular_takeBlockEnd u _ _ _ _
  | lineIdle => exact act_regular s regular_settleLineIdle
  | unusableLimit => exact act_regular s fun u => regular_settleUnusable u
  | overLongSymbol => exact act_regular s fun u => regular_settleOverLong u
  | stuckTone => exact act_regular s fun u => regular_settleStuck u
  | gapLimit => exact act_regular s fun u => regular_settleGapLimit u
  | checkedAttemptStart => exact act_regular s regular_settleStart
  | talkOver => exact act_regular s regular_settleTalkOver
  | requestWaitLimit => exact act_regular s regular_settleRequestWait
  | backOffEnd => exact act_regular s regular_settleBackOff
  | tick => exact act_regular s fun u => regular_takeTick u _ _
  | scriptStepEnd => exact act_regular s fun u => regular_settleScript u _
  | hookDebouncedChange => exact act_regular s fun u => regular_settleHookChange u _
  | hangUp => exact act_regular s fun u => regular_settleHangUp u _
  | pulse => exact act_regular s regular_settlePulse
  | invalidDigit => exact act_regular s regular_settleInvalidDigit
  | digitEnd => exact act_regular s regular_settleDigitEnd
  | barredRelease => exact act_regular s regular_settleBarredRelease
  | digitWaitExpiry => exact act_regular s regular_settleDigitWait
  | completionHoldExpiry => exact act_regular s regular_settleCompletionHold
  | lingerExpiry => exact act_regular s regular_settleLinger
  | pollLossExpiry => exact act_regular s regular_settlePollLoss
  | ringReplyExpiry => exact act_regular s regular_settleRingReply
  | delayExpiry => exact act_regular s regular_settleDelay
  | pollReplyExpiry => exact act_regular s regular_settlePollReply
  | revertExpiry => exact act_regular s regular_settleRevert
  | showExpiry => exact act_regular s regular_settleShow
  | originate => exact act_regular s regular_settleOriginate
  | trunkLapse => exact act_regular s regular_settleTrunkLapse
  | dozeEntry => exact act_regular s regular_settleDozeEntry
  | setupStartBit => exact act_regular s regular_wake
  | setupGapTimeout => exact act_regular s regular_settleGapTimeout
  | setupReplyStart => exact act_regular s regular_settleReplyStart
  | read n => exact act_regular s fun u => regular_arriveCommand u (.read n) nofun
  | enterSetup => exact act_regular s fun u => regular_arriveCommand u .enterSetup nofun
  | leaveSetup => exact act_regular s fun u => regular_arriveCommand u .leaveSetup nofun
  | erase => exact act_regular s fun u => regular_arriveCommand u .erase nofun
  | write n v => exact act_regular s fun u => regular_arriveCommand u (.write n v) nofun
  | conditions => exact act_regular s fun u => regular_arriveCommand u .conditions nofun
  | stateReport => exact act_regular s fun u => regular_arriveCommand u .stateReport nofun
  | restart => exact act_regular s fun u => regular_arriveCommand u .restart nofun
  | badcmd b =>
    exact act_regular s (f := fun u => if namesNoCommand b then arriveCommand (.bad b) u else u)
      fun u => .ite (fun _ => regular_arriveCommand u (.bad b) nofun) fun _ => .refl u
  | restartAfterReply => exact act_regular s regular_settleRestart
  | eraseComplete => exact act_regular s regular_settleErase
  | writeComplete => exact act_regular s regular_settleWrite
  | entryWindowClose => exact act_regular s regular_settleWindowClose

theorem exec_steady (c : Instr) : ∃ t, exec c s = .next t ∧ Steady s t := by
  cases h : isRegular c with
  | true =>
    obtain ⟨t, next, regular⟩ := exec_regular s h
    exact ⟨t, next, regular.toSteady⟩
  | false =>
    cases c with
    | powerOnReset => exact ⟨_, rfl, (steady_cutShort s).trans (steady_startUp _ true)⟩
    | powerFail => exact act_steady s fun u => (steady_cutShort u).trans (steady_powerDown _)
    | lineSample x =>
      exact act_steady s fun u => (regular_overdue u).toSteady.trans (steady_sampleWork _ x)
    | setupByte b high =>
      exact act_steady s fun u => (regular_settleBytes u).toSteady.trans (steady_takeByte _ b high)
    | clearConditions => exact act_steady s fun u => steady_arriveCommand u .clearConditions
    | _ => cases h

/-- A step takes the front command, from which on `exec_steady` speaks; with an empty queue it idles. -/
theorem step_steady {s t : State} (h : step s = .next t) :
    (InRange s → InRange t) ∧ (OutputsFollowView s → OutputsFollowView t) ∧
      (OfflineIsEmpty s → OfflineIsEmpty t) := by
  unfold step at h
  split at h
  · cases h
    exact ⟨id, id, id⟩
  · next c rest _ =>
    obtain ⟨u, next, steady⟩ := exec_steady { s with pending := rest } c
    rw [next] at h
    cases h
    exact ⟨fun r => steady.ranges { r with }, steady.outputs, steady.offline⟩

end Sys2Proof.Machine
end

section
/-! The statements about every step. -/

open Sys2Proof Sys2Proof.Machine

/-- Settles O1. -/
theorem stepTakesTheFrontCommand : Obligations.StepTakesTheFrontCommand := by
  refine ⟨fun _ _ _ => rfl, fun s empty => ?_⟩
  unfold step
  rw [empty]

/-- Settles O2: every command is steady. -/
theorem everyCommandCompletesAndKeepsTheQueue :
    Obligations.EveryCommandCompletesAndKeepsTheQueue := fun c s => by
  obtain ⟨t, next, steady⟩ := exec_steady s c
  exact ⟨t, next, steady.pending, steady.inbox⟩

/-- Settles O6: no step but a restart reads the page, and none makes a restart due that is not awaited. -/
theorem settingsStayInForceUntilAStart : Obligations.SettingsStayInForceUntilAStart := by
  intro c s t notReset notFail notAwaited h
  have notDue : restartDue s = false := by simp [restartDue, notAwaited]
  cases hc : isRegular c with
  | true =>
    obtain ⟨u, next, regular⟩ := exec_regular s hc
    rw [next] at h
    cases h
    exact (regular.restart notDue).2
  | false =>
    cases c with
    | powerOnReset => exact absurd rfl notReset
    | powerFail => exact absurd rfl notFail
    | lineSample x =>
      rw [exec_lineSample] at h
      obtain rfl := Host.Outcome.next.inj h
      split
      · rw [takeSample, sampleWork_settings]
        exact ((regular_overdue s).restart notDue).2
      · rfl
    | setupByte b high =>
      rw [exec_setupByte] at h
      obtain rfl := Host.Outcome.next.inj h
      split
      · exact (takeByte_settings _ _ _).trans ((regular_settleBytes s).restart notDue).2
      · rfl
    | clearConditions =>
      cases h
      split
      · exact arriveCommand_settings s _
      · rfl
    | _ => cases hc

/-- Settles O8: only CLEAR-CONDITIONS, of the regular steps' neighbours, clears a condition. -/
theorem conditionsAreSticky : Obligations.ConditionsAreSticky := by
  intro c s t notReset notFail notClear noByte h
  suffices within : s.conds.Within t.conds by
    obtain ⟨overdrive, brokenWord, clash, abandoned, laneFull, stuck, badCode⟩ := within
    exact ⟨overdrive, brokenWord, clash, abandoned, laneFull, stuck, badCode⟩
  cases hc : isRegular c with
  | true =>
    obtain ⟨u, next, regular⟩ := exec_regular s hc
    rw [next] at h
    cases h
    exact (regular.conds noByte).1
  | false =>
    cases c with
    | powerOnReset => exact absurd rfl notReset
    | powerFail => exact absurd rfl notFail
    | clearConditions => exact absurd rfl notClear
    | lineSample x =>
      rw [exec_lineSample] at h
      obtain rfl := Host.Outcome.next.inj h
      split
      · rw [takeSample, sampleWork_conds]
        exact ((regular_overdue s).conds noByte).1
      · exact .refl _
    | setupByte b high =>
      rw [exec_setupByte] at h
      obtain rfl := Host.Outcome.next.inj h
      split
      · rw [takeByte_conds]
        exact ((regular_settleBytes s).conds noByte).1
      · exact .refl _
    | _ => cases hc

/-- Settles O9. -/
theorem everyStepKeepsCountsInRange : Obligations.EveryStepKeepsCountsInRange := fun s t h next =>
  (inRange_iff t).mp ((step_steady next).1 ((inRange_iff s).mpr h))

/-- Settles O10. -/
theorem everyStepKeepsOutputsFollowingTheView :
    Obligations.EveryStepKeepsOutputsFollowingTheView := fun _ _ h next => (step_steady next).2.1 h

/-- Settles O11. -/
theorem everyStepKeepsOfflineEmpty : Obligations.EveryStepKeepsOfflineEmpty :=
  fun _ _ h next => (step_steady next).2.2 h

/-- Settles O12: the reset state is in range, and every block of the calls is empty in it. -/
theorem invariantsHoldAtReset : Obligations.InvariantsHoldAtReset := by
  obtain ⟨counts, lanes⟩ := (inRange_iff _).mp inRange_reset
  exact ⟨counts, lanes, outputsFollowView_free _ rfl rfl rfl,
    fun _ => ⟨rfl, rfl, rfl, rfl, rfl, rfl, rfl, rfl, rfl, rfl, rfl, rfl⟩, rfl⟩

end

section
/-! The starts and the store. -/

namespace Sys2Proof.Machine

theorem act_of_powered {s : State} (h : s.powered = true) (f : State → State) :
    act f s = .next (f s) := by
  rw [act, if_pos h]

section

variable {due : State → Bool} {take : State → State} {s : State}

theorem whenDue_of_due (h : due s = true) :
    whenDue due take s = take s := if_pos h

theorem whenDue_of_not_due (h : due s = false) :
    whenDue due take s = s := by
  rw [whenDue, h]; rfl

end

variable (s : State)

theorem cutShort_idle (h : s.store.op = .idle) : cutShort s = s := by
  unfold cutShort; rw [h]

theorem restartDue_iff :
    restartDue s = true ↔ s.link.awaitRestart = true ∧ s.link.sending = none ∧ s.link.replies = [] := by
  simp [restartDue, and_assoc]

theorem exec_powerOnReset : exec .powerOnReset s = .next (startUp true (cutShort s)) := rfl

theorem exec_powerFail (h : s.powered = true) :
    exec .powerFail s = .next (powerDown (cutShort s)) :=
  act_of_powered h fun t => powerDown (cutShort t)

theorem exec_eraseComplete (h : s.powered = true) :
    exec .eraseComplete s = .next (settleErase s) := act_of_powered h _

theorem exec_writeComplete (h : s.powered = true) :
    exec .writeComplete s = .next (settleWrite s) := act_of_powered h _

theorem exec_restartAfterReply (h : s.powered = true) :
    exec .restartAfterReply s = .next (settleRestart s) := act_of_powered h _

/-! ## The cells of a page -/

theorem Page.get_set_same (p : Page) {n : Nat} (h : n ≤ 8) (v : Byte) : (p.set n v).get n = v := by
  interval_cases n <;> rfl

theorem Page.get_set_other (p : Page) {n m : Nat} (h : m ≠ n) (v : Byte) :
    (p.set n v).get m = p.get m := by
  unfold Page.set
  split <;> first | rfl | (unfold Page.get; split <;> first | rfl | omega)

theorem Page.get_cutErase (p : Page) (keeps : Nat → Bool) {n : Nat} (h : n < 8) :
    (p.cutErase keeps).get n = p.get n ∨ (p.cutErase keeps).get n = 0xFF := by
  have cell : ∀ (b : Bool) (v : Byte), (if b then v else 0xFF) = v ∨ (if b then v else 0xFF) = 0xFF :=
    fun b v => by cases b <;> simp
  interval_cases n <;> exact cell _ _

theorem Page.settings_none_of_erased (p : Page) (h : p.c8 = 0xFF) : p.settings = none := by
  have invalid : ¬ p.settings.isSome = true := fun valid => by
    have := ((settingsComeFromThePageTable p).1.mp valid).1
    rw [h] at this
    exact absurd this (by decide)
  simpa using invalid

/-! ## The supply interrupts the store -/

/-- R159, R160: the store once the supply has cut an erase or a write short, with the cells that the free values leave. -/
structure CutFrom (x y : Store) : Prop where
  op : y.op = .idle
  idle : x.op = .idle → y.page = x.page
  erasing : ∀ k, x.op = .erasing k → y.page.c8 = 0xFF ∧ y.page.settings = none ∧
    ∀ n, n < 8 → y.page.get n = x.page.get n ∨ y.page.get n = 0xFF
  writing : ∀ n v k, x.op = .writing n v k → (y.page.get n = v ∨ y.page.get n = 0xFF) ∧
    ∀ m, m ≠ n → y.page.get m = x.page.get m

theorem cutShort_store : CutFrom s.store (cutShort s).store := by
  unfold cutShort
  split
  · next idle =>
    exact ⟨idle, fun _ => rfl, fun k h => by simp [idle] at h, fun n v k h => by simp [idle] at h⟩
  · next j erasing =>
    refine ⟨rfl, fun h => by simp [erasing] at h, fun k _ => ?_, fun n v k h => by simp [erasing] at h⟩
    exact ⟨rfl, Page.settings_none_of_erased _ rfl, fun n h => Page.get_cutErase _ _ h⟩
  · next n v j writing =>
    refine ⟨rfl, fun h => by simp [writing] at h, fun k h => by simp [writing] at h, fun n' v' k h => ?_⟩
    obtain ⟨rfl, rfl, -⟩ : n = n' ∧ v = v' ∧ j = k := by simpa [writing] using h
    refine ⟨?_, fun m other => Page.get_set_other _ other _⟩
    by_cases cell : n ≤ 8
    · have set := Page.get_set_same s.store.page cell (if Config.writeCutTook s.draws then v else 0xFF)
      simp only [Page.cutWrite, set]
      split
      · exact .inl rfl
      · exact .inr rfl
    · right
      unfold Page.get
      split <;> first | rfl | omega

/-- R159, R160: the supply's fall and its rise leave the store as the cut does. -/
theorem supply_store {c : Instr} (h : c = .powerFail ∧ s.powered = true ∨ c = .powerOnReset) :
    ∃ t, exec c s = .next t ∧ t.powered = decide (c = .powerOnReset) ∧
      t.store = (cutShort s).store := by
  obtain ⟨rfl, powered⟩ | rfl := h
  · exact ⟨_, exec_powerFail s powered, rfl, rfl⟩
  · exact ⟨_, exec_powerOnReset s, rfl, rfl⟩

theorem storeTimeOver_erasing {k : Nat} (h : s.store.op = .erasing k) :
    storeTimeOver s = decide (k = 0) := by
  rw [storeTimeOver, h]

theorem storeTimeOver_writing {n k : Nat} {v : Byte} (h : s.store.op = .writing n v k) :
    storeTimeOver s = decide (k = 0) := by
  rw [storeTimeOver, h]

theorem storeTimeOver_idle (h : s.store.op = .idle) : storeTimeOver s = false := by
  rw [storeTimeOver, h]

/-- ERASE_COMPLETE once the erase has lasted its time. -/
theorem settleErase_over (h : s.store.op = .erasing 0) :
    settleErase s = { s with store := ⟨.erased, .idle⟩ } := by
  rw [settleErase, whenDue_of_due (storeTimeOver_erasing s h), takeEraseComplete, h]

theorem settleErase_otherwise (h : s.store.op ≠ .erasing 0) : settleErase s = s := by
  cases op : s.store.op with
  | idle => exact whenDue_of_not_due (storeTimeOver_idle s op)
  | erasing k =>
    refine whenDue_of_not_due ?_
    rw [storeTimeOver_erasing s op, decide_eq_false]
    rintro rfl
    exact h op
  | writing n v k =>
    unfold settleErase whenDue takeEraseComplete
    rw [op]
    exact ite_self s

/-- WRITE_COMPLETE once the write has lasted its time. -/
theorem settleWrite_over {n : Nat} {v : Byte} (h : s.store.op = .writing n v 0) :
    settleWrite s = { s with store := ⟨s.store.page.set n v, .idle⟩ } := by
  rw [settleWrite, whenDue_of_due (storeTimeOver_writing s h), takeWriteComplete, h]

theorem settleWrite_otherwise (h : ∀ n v, s.store.op ≠ .writing n v 0) : settleWrite s = s := by
  cases op : s.store.op with
  | idle => exact whenDue_of_not_due (storeTimeOver_idle s op)
  | erasing k =>
    unfold settleWrite whenDue takeWriteComplete
    rw [op]
    exact ite_self s
  | writing n v k =>
    refine whenDue_of_not_due ?_
    rw [storeTimeOver_writing s op, decide_eq_false]
    rintro rfl
    exact h n v op

theorem storeBusy_iff : storeBusy s = true ↔ s.store.op ≠ .idle := by
  unfold storeBusy
  cases s.store.op <;> simp

end Sys2Proof.Machine
end

section
/-! The statements about the starts and the store. -/

open Sys2Proof Sys2Proof.Machine

/-- Settles O3: the reset values are constants. -/
theorem resetStateHoldsTheStatedValues : Obligations.ResetStateHoldsTheStatedValues := by
  have filters : ∀ k, State.reset.det.filters.ofTone k = ⟨0, 0⟩ := by decide
  simp only [Obligations.ResetStateHoldsTheStatedValues]
  refine ⟨rfl, rfl, rfl, rfl, rfl, filters, ?_⟩
  exact ⟨rfl, rfl, rfl, rfl, rfl, rfl, rfl, rfl, rfl, rfl, rfl, rfl, rfl, rfl, rfl, rfl, rfl, rfl,
    rfl, rfl, rfl, rfl, rfl, rfl, rfl, rfl, rfl, rfl, rfl, rfl, rfl, rfl, rfl, rfl, rfl, rfl⟩

/-- Settles O4: with the store idle both starts are `startUp`. -/
theorem startsAfreshAtAResetOrARestart : Obligations.StartsAfreshAtAResetOrARestart := by
  refine ⟨fun s idle => ?_, fun s powered notDue => ?_, fun s powered await sent none idle => ?_⟩
  · rw [exec_powerOnReset, cutShort_idle s idle]
    have dial : DialDecoder.atStart (decide (s.store.page.settings.map (·.code) = some 15)) =
        if s.store.page.settings.map (·.code) = some 15 then
          { State.reset.dial with hook := .onHook } else State.reset.dial := by
      by_cases trunk : s.store.page.settings.map (·.code) = some 15
      · rw [if_pos trunk, decide_eq_true trunk]; rfl
      · rw [if_neg trunk, decide_eq_false trunk]; rfl
    simp only [startUp, dial]
    rfl
  · rw [exec_restartAfterReply s powered]
    refine congrArg _ (whenDue_of_not_due (Bool.eq_false_iff.mpr fun due => ?_))
    obtain ⟨await, sent, none⟩ := (restartDue_iff s).mp due
    simp_all
  · have due : restartDue s = true := (restartDue_iff s).mpr ⟨await, sent, none⟩
    refine ⟨startUp false s, startUp true s, ?_, ?_, rfl, rfl, rfl⟩
    · rw [exec_restartAfterReply s powered, settleRestart, whenDue_of_due due]
    · rw [exec_powerOnReset, cutShort_idle s idle]

/-- Settles O7: what the supply leaves of the store is `CutFrom`'s, and a work that has lasted its time is taken. -/
theorem eraseAndWriteEndOrAreCutShort : Obligations.EraseAndWriteEndOrAreCutShort := by
  refine ⟨fun c s h => ?_, fun s powered => ?_⟩
  · obtain ⟨t, next, on, store⟩ := supply_store s h
    obtain ⟨op, idle, erasing, writing⟩ := store ▸ cutShort_store s
    exact ⟨t, next, on, op, idle, erasing, writing⟩
  · rw [exec_eraseComplete s powered, exec_writeComplete s powered]
    refine ⟨fun h => by rw [settleErase_over s h]; rfl, fun h => by rw [settleErase_otherwise s h],
      fun n v cell h => ?_, fun h => by rw [settleWrite_otherwise s h], storeBusy_iff s⟩
    exact ⟨_, by rw [settleWrite_over s h], Page.get_set_same _ cell v,
      fun m other => Page.get_set_other _ other v⟩

end

section
/-! A sample in and a sample out. -/

namespace Sys2Proof.Machine

variable (s : State)

/-! ## The sample's work -/

/-- With nothing due and neither the tick nor the block over, LINE_SAMPLE is the sample's own work. -/
theorem takeSample_of_nothingDue (x : Int) (h : NothingDue s) (pos : s.frame.pos < 160)
    (tick : s.frame.tickPos < 80) : takeSample x s = sampleWork x s := by
  rw [takeSample, overdueTick, takeTick_early s _ _ tick, overdueBlock,
    takeBlockEnd_early s _ _ _ _ pos, settle_of_nothingDue s h]

theorem exec_lineSample_of_nothingDue (x : Int) (powered : s.powered = true) (h : NothingDue s)
    (pos : s.frame.pos < 160) (tick : s.frame.tickPos < 80) :
    exec (.lineSample x) s = .next (sampleWork x s) := by
  rw [exec_lineSample, if_pos powered, takeSample_of_nothingDue s x h pos tick]

theorem step_sampleWork (x : Int) :
    OnlyParts [.frame, .det, .engine, .out, .store, .link] s (sampleWork x s) := by
  intro p hp
  cases p <;> first | rfl | simp at hp

theorem sampleWork_det (x : Int) : (sampleWork x s).det = s.det.take x := rfl

theorem sampleWork_store (x : Int) :
    (sampleWork x s).store = { s.store with op := s.store.op.sample } := rfl

theorem sampleWork_link (x : Int) :
    (sampleWork x s).link = { s.link with sending := s.link.sending.bind Sending.sample } := rfl

/-- Log 24: one sample of the store's work, written out. -/
theorem storeOp_sample (op : StoreOp) :
    op.sample = match op with
      | .idle => .idle
      | .erasing k => .erasing (k - 1)
      | .writing n v k => .writing n v (k - 1) := by
  cases op <;> rfl

/-- Log 24: one sample of the reply being sent, written out. -/
theorem sending_sample (x : Option Sending) :
    x.bind Sending.sample = match x with
      | none => none
      | some r => if r.left ≤ 3 then none else some ⟨r.bytes, r.left - 3⟩ := by
  cases x <;> rfl

/-! ## The detector -/

theorem Detector.count_sumSq (d : Detector) (x : Int) :
    ((d.count x).sumSq : Int) = d.sumSq + x * x := by
  rw [Detector.count, Nat.cast_add, Int.toNat_of_nonneg (mul_self_nonneg x)]

theorem Detector.count_clips (d : Detector) (x : Int) :
    (d.count x).clips = d.clips + if x = -2048 ∨ x = 2047 then 1 else 0 := by
  simp [Detector.count, isClipped]

theorem Detector.take_full {d : Detector} (h : d.mode = .full) (x : Int) :
    d.take x = { d.count x with filters := runAllFilters x d.filters } := by
  rw [Detector.take, h]

theorem Detector.take_doze {d : Detector} {n : Nat} (h : d.mode = .doze n) (x : Int) :
    d.take x =
      if n % 4 = 0 then { d.count x with filters := runDozeFilters x d.filters } else d := by
  rw [Detector.take, h]

/-! ## Rounding -/

theorem roundHalfAway_of_nonneg {n : Int} {d : Nat} (hd : 0 < d) (hn : 0 ≤ n) :
    2 * n - d < 2 * (d * roundHalfAway n d) ∧ 2 * (d * roundHalfAway n d) ≤ 2 * n + d := by
  have pos : (0 : Int) < 2 * d := by omega
  have below := Int.mul_ediv_self_le (x := 2 * n + d) pos.ne'
  have above := Int.lt_mul_ediv_self_add (x := 2 * n + d) pos
  rw [mul_assoc] at below above
  rw [roundHalfAway, if_pos hn]
  constructor <;> linarith

theorem roundHalfAway_neg {n : Int} (hn : n < 0) (d : Nat) :
    roundHalfAway n d = -roundHalfAway (-n) d := by
  rw [roundHalfAway, if_neg (by omega), roundHalfAway, if_pos (by omega)]

theorem roundHalfAway_of_neg {n : Int} {d : Nat} (hd : 0 < d) (hn : n < 0) :
    2 * n - d ≤ 2 * (d * roundHalfAway n d) ∧ 2 * (d * roundHalfAway n d) < 2 * n + d := by
  have mirrored := roundHalfAway_of_nonneg hd (n := -n) (by omega)
  rw [roundHalfAway_neg hn]
  constructor <;> linarith

/-! ## The sizes of the outputs -/

theorem sineEntry_bounds (i : Nat) : -2047 ≤ sineEntry i ∧ sineEntry i ≤ 2047 := by
  have quarter : ∀ k, sineQuarter.getD k 0 ≤ 2047 := fun k => by
    have all : ∀ x ∈ sineQuarter, x ≤ 2047 := by decide
    rw [List.getD_eq_getElem?_getD]
    cases h : sineQuarter[k]? with
    | none => exact Nat.zero_le _
    | some x => exact all x (List.mem_of_getElem? h)
  unfold sineEntry
  simp only
  have q₁ := quarter (i % 256)
  have q₂ := quarter (128 - i % 256)
  have q₃ := quarter (i % 256 - 128)
  have q₄ := quarter (256 - i % 256)
  split
  · omega
  · split
    · omega
    · split <;> omega

/-- A yield is 0 or an entry of the sine table. -/
theorem ite_sineAt_bounds (b : Bool) (phase : Nat) :
    -2047 ≤ (if b then sineAt phase else 0) ∧ (if b then sineAt phase else 0) ≤ 2047 := by
  cases b
  · simp
  · exact sineEntry_bounds _

theorem scaled_bounds {y : Int} (h : -2047 ≤ y ∧ y ≤ 2047) {l m : Nat} (hl : l ≤ m) :
    -(2047 * m) ≤ y * l ∧ y * l ≤ 2047 * m := by
  obtain ⟨low, high⟩ := h
  have hl' : (l : Int) ≤ m := by exact_mod_cast hl
  have hl₀ : (0 : Int) ≤ l := Int.natCast_nonneg l
  constructor <;> nlinarith

theorem roundHalfAway_32_bounds {n : Int} (h : -61410 ≤ n ∧ n ≤ 61410) :
    -1919 ≤ roundHalfAway n 32 ∧ roundHalfAway n 32 ≤ 1919 := by
  unfold roundHalfAway
  split <;> constructor <;> omega

theorem roundHalfAway_16_bounds {n : Int} (h : -20470 ≤ n ∧ n ≤ 20470) :
    -1279 ≤ roundHalfAway n 16 ∧ roundHalfAway n 16 ≤ 1279 := by
  unfold roundHalfAway
  split <;> constructor <;> omega

end Sys2Proof.Machine
end

section
/-! The statements about LINE_SAMPLE and the outputs. -/

open Sys2Proof Sys2Proof.Machine

/-- Settles O13: the detector takes the sample by its mode, and the store and the reply by their own time. -/
theorem sampleEntersTheBlock : Obligations.SampleEntersTheBlock := by
  have store : ∀ (x : Int) (s : State), _ := fun x s =>
    (sampleWork_store s x).trans (congrArg (fun op => { s.store with op := op }) (storeOp_sample s.store.op))
  have link : ∀ (x : Int) (s : State), _ := fun x s =>
    (sampleWork_link s x).trans
      (congrArg (fun r => { s.link with sending := r }) (sending_sample s.link.sending))
  refine ⟨fun x s powered h pos tick mode => ?_, fun x s n powered h pos tick mode => ?_⟩
  · refine ⟨sampleWork x s, exec_lineSample_of_nothingDue s x powered h pos tick, rfl, ?_⟩
    rw [sampleWork_det, Detector.take_full mode]
    exact ⟨rfl, Detector.count_sumSq _ x, Detector.count_clips _ x, rfl, mode, store x s, link x s,
      step_sampleWork s x⟩
  · refine ⟨sampleWork x s, exec_lineSample_of_nothingDue s x powered h pos tick, rfl, ?_⟩
    rw [sampleWork_det, Detector.take_doze mode]
    refine ⟨fun evaluated => ?_, fun resting => if_neg resting, store x s, link x s,
      step_sampleWork s x⟩
    rw [if_pos evaluated]
    exact ⟨rfl, Detector.count_sumSq _ x, Detector.count_clips _ x, rfl, mode⟩

/-- Settles O14: the outputs and the phases are those of the engine before the sample. -/
theorem sampleProducesTheOutputs : Obligations.SampleProducesTheOutputs :=
  fun x s powered h pos tick =>
    ⟨sampleWork x s, exec_lineSample_of_nothingDue s x powered h pos tick, rfl, rfl⟩

/-- Settles O15: every yield is at most 2047 either way. -/
theorem outputsStayInTheirRanges : Obligations.OutputsStayInTheirRanges := by
  refine ⟨fun n d hd => ⟨roundHalfAway_of_nonneg hd, roundHalfAway_of_neg hd⟩,
    fun e level₀ level₁ level₂ => ?_⟩
  obtain ⟨low₀, high₀⟩ := scaled_bounds (ite_sineAt_bounds e.v0.play e.v0.phase) level₀
  obtain ⟨low₁, high₁⟩ := scaled_bounds (ite_sineAt_bounds e.v1.play e.v1.phase) level₁
  obtain ⟨low₂, high₂⟩ := scaled_bounds (ite_sineAt_bounds e.ear.sounding e.ear.phase) level₂.le
  obtain ⟨lineLow, lineHigh⟩ := roundHalfAway_32_bounds
    (n := e.v0.yield * e.v0.level + e.v1.yield * e.v1.level)
    ⟨by unfold LineVoice.yield; push_cast at *; linarith,
      by unfold LineVoice.yield; push_cast at *; linarith⟩
  exact ⟨lineLow, lineHigh, roundHalfAway_16_bounds ⟨by exact_mod_cast low₂, by exact_mod_cast high₂⟩⟩

end

section
/-! The decision of a block: the ranking of the tones, and the tests on its first three. -/

namespace Sys2Proof.Machine

/-! ## The ranking -/

/-- R25: `x` stands before `y` in the ranking: more energy, or as much and a lower index. -/
def Above (x y : Tone × Nat) : Prop := y.2 < x.2 ∨ (y.2 = x.2 ∧ x.1 < y.1)

theorem Above.trans {x y z : Tone × Nat} (h₁ : Above x y) (h₂ : Above y z) : Above x z := by
  simp only [Above, Fin.lt_def] at *
  omega

theorem Above.asymm {x y : Tone × Nat} (h₁ : Above x y) (h₂ : Above y x) : False := by
  simp only [Above, Fin.lt_def] at *
  omega

theorem insertRanked_perm (x : Tone × Nat) (l : List (Tone × Nat)) :
    (insertRanked x l).Perm (x :: l) := by
  induction l with
  | nil => exact .refl _
  | cons y ys ih =>
    unfold insertRanked
    split
    · exact (ih.cons y).trans (.swap x y ys)
    · exact .refl _

/-- A tone of a higher index than those ranked before it goes to its place. -/
theorem insertRanked_pairwise {x : Tone × Nat} {l : List (Tone × Nat)} (h : l.Pairwise Above)
    (later : ∀ y ∈ l, y.1 < x.1) : (insertRanked x l).Pairwise Above := by
  induction l with
  | nil => exact List.pairwise_singleton _ _
  | cons y ys ih =>
    obtain ⟨first, rest⟩ := List.pairwise_cons.mp h
    have before := later y List.mem_cons_self
    unfold insertRanked
    split
    · next le =>
      refine List.pairwise_cons.mpr ⟨fun z hz => ?_, ih rest fun z hz => later z (.tail y hz)⟩
      obtain rfl | hz := List.mem_cons.mp ((insertRanked_perm x ys).mem_iff.mp hz)
      · have := Fin.lt_def.mp before
        simp only [Above, Fin.lt_def]
        omega
      · exact first z hz
    · next lt =>
      have top : Above x y := .inl (by omega)
      refine List.pairwise_cons.mpr ⟨fun z hz => ?_, h⟩
      obtain rfl | hz := List.mem_cons.mp hz
      · exact top
      · exact top.trans (first z hz)

/-- Ranking a list in the order of the index: every tone once, in rank order. -/
theorem foldl_insertRanked {l ranked : List (Tone × Nat)} (hl : l.Pairwise (·.1 < ·.1))
    (h : ranked.Pairwise Above) (later : ∀ x ∈ l, ∀ y ∈ ranked, y.1 < x.1) :
    (l.foldl (fun r x => insertRanked x r) ranked).Pairwise Above ∧
      (l.foldl (fun r x => insertRanked x r) ranked).Perm (ranked ++ l) := by
  induction l generalizing ranked with
  | nil => exact ⟨h, by simp⟩
  | cons x xs ih =>
    obtain ⟨first, rest⟩ := List.pairwise_cons.mp hl
    have placed := insertRanked_perm x ranked
    obtain ⟨sorted, perm⟩ := ih rest (insertRanked_pairwise h (later x List.mem_cons_self))
      fun z hz y hy => by
        obtain rfl | hy := List.mem_cons.mp (placed.mem_iff.mp hy)
        · exact first z hz
        · exact later z (.tail x hz) y hy
    exact ⟨sorted, perm.trans ((placed.append_right xs).trans List.perm_middle.symm)⟩

theorem Bank.list_eq (e : Bank Nat) :
    e.list = (List.finRange 8).map fun k => (k, e.ofTone k) := rfl

theorem rankTones_sorted (e : Bank Nat) :
    (rankTones e).Pairwise Above ∧ (rankTones e).Perm e.list := by
  have increasing : e.list.Pairwise (·.1 < ·.1) := by
    rw [Bank.list_eq, List.pairwise_map]
    exact List.pairwise_lt_finRange 8
  exact foldl_insertRanked increasing .nil (by simp)

theorem mem_rankTones (e : Bank Nat) (x : Tone × Nat) :
    x ∈ rankTones e ↔ x.2 = e.ofTone x.1 := by
  rw [(rankTones_sorted e).2.mem_iff, Bank.list_eq]
  simp [Prod.ext_iff, eq_comm]

/-- The head of a ranked list is the entry that stands before all the others. -/
theorem head_eq_of_above {x m : Tone × Nat} {l : List (Tone × Nat)}
    (sorted : (x :: l).Pairwise Above) (mem : m ∈ x :: l)
    (top : ∀ y ∈ x :: l, y ≠ m → Above m y) : x = m := by
  by_contra ne
  have below : m ∈ l := (List.mem_cons.mp mem).resolve_left (Ne.symm ne)
  exact ((List.pairwise_cons.mp sorted).1 m below).asymm (top x List.mem_cons_self ne)

section Top

variable {e : Bank Nat} {a b c : Tone}

theorem above_entry {k l : Tone} : Above (k, e.ofTone k) (l, e.ofTone l) ↔ ranksAbove e k l :=
  Iff.rfl

/-- R25: the ranking begins with its first three tones. -/
theorem rankTones_of_topThree (h : TopThree e a b c) :
    ∃ rest, rankTones e =
      (a, e.ofTone a) :: (b, e.ofTone b) :: (c, e.ofTone c) :: rest := by
  obtain ⟨ab, bc, low⟩ := h
  have ac : ranksAbove e a c := Above.trans (above_entry.mpr ab) (above_entry.mpr bc)
  have ne : ∀ {k l}, ranksAbove e k l → k ≠ l := fun h => by
    rintro rfl
    exact Above.asymm (above_entry.mpr h) (above_entry.mpr h)
  obtain ⟨sorted, perm⟩ := rankTones_sorted e
  have entry := mem_rankTones e
  match shape : rankTones e, perm.length_eq with
  | x :: y :: z :: rest, _ =>
    rw [shape] at sorted entry
    have tone : ∀ k, (k, e.ofTone k) ∈ x :: y :: z :: rest := fun k => (entry _).mpr rfl
    have pair : ∀ w ∈ x :: y :: z :: rest, w = (w.1, e.ofTone w.1) := fun w hw =>
      Prod.ext rfl ((entry w).mp hw)
    have sorted₁ := List.pairwise_cons.mp sorted
    have sorted₂ := List.pairwise_cons.mp sorted₁.2
    obtain rfl : x = (a, e.ofTone a) := head_eq_of_above sorted (tone a) fun w hw other => by
      rw [pair w hw, above_entry]
      by_cases hb : w.1 = b
      · exact hb ▸ ab
      · by_cases hc : w.1 = c
        · exact hc ▸ ac
        · refine Above.trans (above_entry.mpr ac)
            (above_entry.mpr (low _ (fun ha => other ?_) hb hc))
          rw [pair w hw, ha]
    obtain rfl : y = (b, e.ofTone b) := head_eq_of_above sorted₁.2
        ((List.mem_cons.mp (tone b)).resolve_left fun h => ne ab (congrArg Prod.fst h).symm)
        fun w hw other => by
      have below := sorted₁.1 w hw
      rw [pair w (.tail _ hw), above_entry] at below ⊢
      by_cases hc : w.1 = c
      · exact hc ▸ bc
      · refine Above.trans (above_entry.mpr bc)
          (above_entry.mpr (low _ (ne below).symm (fun hb => other ?_) hc))
        rw [pair w (.tail _ hw), hb]
    obtain rfl : z = (c, e.ofTone c) := head_eq_of_above sorted₂.2
        ((List.mem_cons.mp ((List.mem_cons.mp (tone c)).resolve_left
          fun h => ne ac (congrArg Prod.fst h).symm)).resolve_left
            fun h => ne bc (congrArg Prod.fst h).symm)
        fun w hw other => by
      have below₁ := sorted₁.1 w (.tail _ hw)
      have below₂ := sorted₂.1 w hw
      rw [pair w (.tail _ (.tail _ hw)), above_entry] at below₁ below₂ ⊢
      refine low _ (ne below₁).symm (ne below₂).symm fun hc => other ?_
      rw [pair w (.tail _ (.tail _ hw)), hc]
    exact ⟨rest, rfl⟩

end Top

/-! ## The tests -/

theorem strongCount_eq (e : Bank Nat) (q : Nat) :
    strongCount e q = (List.finRange 8).countP fun k => decide (q / 8 ≤ e.ofTone k) := by
  rw [strongCount, ← List.countP_eq_length_filter, Bank.list_eq, List.countP_map]
  rfl

theorem pairOfTones_eq (a b : Tone) : pairOfTones a b = ⟨min a b, max a b⟩ := by
  unfold pairOfTones
  split
  · next le => rw [min_eq_left le, max_eq_right le]
  · next lt => rw [min_eq_right (le_of_not_ge lt), max_eq_left (le_of_not_ge lt)]

theorem pairTests_iff (ea eb ec q : Nat) :
    pairTests ea eb ec q = true ↔
      1 ≤ eb ∧ ea ≤ 4 * eb ∧ 8 * ec ≤ eb ∧ 3 * q ≤ 4 * (ea + eb) := by
  simp [pairTests, and_assoc]

end Sys2Proof.Machine
end

section
/-! The statement about the block decision. -/

open Sys2Proof Sys2Proof.Machine

/-- Settles O16: the tests in their order, the pair tests on the ranking's first three tones. -/
theorem blockDecisionFollowsTheTests : Obligations.BlockDecisionFollowsTheTests := by
  intro lenient clips q t e a b c top strong pairHolds d clipped
  obtain ⟨rest, ranked⟩ := rankTones_of_topThree top
  have decision : d = if clipped then .unusable else if q < t then .silent
      else if 3 ≤ strong then .overlap
      else if pairHolds then .pair ⟨min a b, max a b⟩ else .noise := by
    simp only [d, blockDecision, strongCount_eq, ranked, pairDecision, pairTests_iff, pairOfTones_eq]
    rfl
  rw [decision]
  refine ⟨fun h => if_pos h, fun h₁ h₂ => ?_, fun h₁ h₂ h₃ => ?_, fun h₁ h₂ h₃ h₄ => ?_,
    fun h₁ h₂ h₃ h₄ => ?_⟩
  · rw [if_neg h₁, if_pos h₂]
  · rw [if_neg h₁, if_neg (not_lt.mpr h₂), if_pos h₃]
  · rw [if_neg h₁, if_neg (not_lt.mpr h₂), if_neg (not_le.mpr h₃), if_pos h₄]
  · rw [if_neg h₁, if_neg (not_lt.mpr h₂), if_neg (not_le.mpr h₃), if_neg h₄]

end

section
/-! The line code, and what the Word Receiver makes of a decision and of an emitted symbol. -/

namespace Sys2Proof.Machine

/-! ## Symbols and words -/

theorem kindOfIndex_ordinal (k : Kind) : kindOfIndex (18 + k.ordinal) = some k := by
  cases k <;> rfl

theorem kindOfIndex_eq_none {i : Nat} (h : i < 18 ∨ 24 < i) : kindOfIndex i = none := by
  unfold kindOfIndex
  split <;> first | rfl | omega

theorem digitOfIndex_val (d : Code) : digitOfIndex d.val = some d := dif_pos d.isLt

theorem digitOfIndex_eq_none {i : Nat} (h : 15 < i) : digitOfIndex i = none :=
  dif_neg (by omega)

theorem argumentValid_iff (w : LineWord) (h : w.arg.isSome = w.kind.hasArgument) :
    argumentValid w.kind w.arg = true ↔
      ∀ a, w.arg = some a → (w.kind = .ring → a.val ≤ 2) ∧ (w.kind = .refuse → a.val ≤ 4) := by
  obtain ⟨k, dst, src, arg⟩ := w
  cases k <;> cases arg <;> simp_all [argumentValid, Kind.hasArgument]

theorem checkDigit_val (k : Kind) (dst src : Code) (arg : Option Code) :
    (checkDigit k dst src arg).val =
      (k.ordinal + dst.val + src.val + (arg.getD 0).val) % 16 := rfl

theorem code_ne_zero_iff (c : Code) : c ≠ 0 ↔ 1 ≤ c.val ∧ c.val ≤ 15 := by
  rw [Ne, Fin.ext_iff]
  have := c.isLt
  simp only [Fin.val_zero]
  omega

/-! ## The word stage -/

variable (s : State)

theorem takeValidWord_eq (own : Bool) (w : LineWord) (o : DeliveryOrder) :
    takeValidWord own w o s =
      let t := { s with
        conds := { s.conds with
          clash := s.conds.clash || (!own && decide (ownCode s = some w.src)) } }
      if inService s then deliver own w o t else t := by
  have noted : (if isClash own w s then setClash s else s) =
      { s with conds := { s.conds with
          clash := s.conds.clash || (!own && decide (ownCode s = some w.src)) } } := by
    change (if isClash own w s then setClash s else s) =
      { s with conds := { s.conds with clash := s.conds.clash || isClash own w s } }
    cases isClash own w s <;> simp [setClash]
  unfold takeValidWord
  simp only [noted]
  rfl

theorem call_takeValidWord (own : Bool) (w : LineWord) (o : DeliveryOrder) :
    OnlyParts callParts s (takeValidWord own w o s) := by
  have noted : OnlyParts callParts s (if isClash own w s then setClash s else s) :=
    only_of_ite (fun p hp => by cases p <;> first | rfl | simp [callParts] at hp) (only_refl _ _)
  have mine : ∀ (f : State → State), (∀ u, OnlyParts callParts u (f u)) → ∀ b u,
      OnlyParts callParts u (onlyIf b f u) := fun f h b u => only_of_ite (h u) (only_refl _ _)
  exact only_of_ite (only_trans noted (only_inOrder _ o _ _ _
    (fun u => only_mono view_in_call (view_viewWord u own w))
    (mine _ (fun u => only_mono answer_in_call (answer_auWord u w)) _)
    (mine _ (fun u => only_mono request_in_call (request_ruWord u w)) _))) noted

section Place

variable {s : State} {r : WordRecord} {i : Nat} (o : DeliveryOrder)

theorem placeSymbol_none (h : s.rx.word = none) : placeSymbol i o s = s := by
  unfold placeSymbol; rw [h]

/-- R44: a symbol that fits fills its field. -/
theorem placeSymbol_fill {r' : WordRecord} (h : s.rx.word = some r) (fits : r.fill i = some r') :
    placeSymbol i o s = setWord (some r') s := by
  have place : r.place ≠ .check := fun check => by simp [WordRecord.fill, check] at fits
  unfold placeSymbol
  rw [h]
  simp [place, fits]

theorem placeSymbol_setWord {r' : WordRecord} (fits : r.fill i = some r') :
    placeSymbol i o (setWord (some r) s) = setWord (some r') s :=
  placeSymbol_fill o rfl fits

/-- R44: a symbol that does not fit breaks the word. -/
theorem placeSymbol_misfit (h : s.rx.word = some r) (place : r.place ≠ .check)
    (misfit : r.fill i = none) :
    placeSymbol i o s =
      { s with
        rx := { s.rx with word := none }
        conds := { s.conds with brokenWord := true } } := by
  unfold placeSymbol
  rw [h]
  simp [place, misfit, breakWord_eq, h]

theorem placeSymbol_check {d : Code} (h : s.rx.word = some r) (place : r.place = .check)
    (digit : digitOfIndex i = some d) : placeSymbol i o s = completeWord r d o s := by
  unfold placeSymbol placeCheck
  rw [h]
  simp [place, digit]

theorem placeSymbol_check_misfit (h : s.rx.word = some r) (place : r.place = .check)
    (digit : digitOfIndex i = none) :
    placeSymbol i o s =
      { s with
        rx := { s.rx with word := none }
        conds := { s.conds with brokenWord := true } } := by
  unfold placeSymbol placeCheck
  rw [h]
  simp [place, digit, breakWord_eq, h]

end Place

/-- R46: a completed word that is valid is taken, and an invalid one sets BROKEN-WORD. -/
theorem completeWord_eq {r : WordRecord} {w : LineWord} (h : r.word = some w) (check : Code)
    (o : DeliveryOrder) :
    completeWord r check o s =
      if wordValid w check then takeValidWord r.own w o (setWord none s)
      else setBrokenWord (setWord none s) := by
  unfold completeWord
  rw [h]

/-! ## The words sent -/

theorem completeWord_rx (r : WordRecord) (check : Code) (o : DeliveryOrder) :
    (completeWord r check o s).rx = { s.rx with word := none } := by
  unfold completeWord
  split
  · next w _ =>
    split
    · exact call_takeValidWord (setWord none s) r.own w o .rx (by decide)
    · rfl
  · rfl

/-- R44: what an emitted symbol does to the receiver's records, whatever a completed word does elsewhere. -/
theorem placeSymbol_rx (i : Nat) (o : DeliveryOrder) :
    (placeSymbol i o s).rx = { s.rx with word := s.rx.word.bind (·.fill i) } := by
  cases word : s.rx.word with
  | none => rw [placeSymbol_none o word, Option.bind_none, ← word]
  | some r =>
    rw [Option.bind_some]
    cases fits : r.fill i with
    | some r' => rw [placeSymbol_fill o word fits]; rfl
    | none =>
      by_cases place : r.place = .check
      · cases digit : digitOfIndex i with
        | none => rw [placeSymbol_check_misfit o word place digit]
        | some d => rw [placeSymbol_check o word place digit, completeWord_rx]
      · rw [placeSymbol_misfit o word place fits]

section Fill

variable {r : WordRecord}

theorem fill_opening (h : r.place = .opening) :
    r.fill attnIndex = some { r with place := .kind, gap := 0 } := by
  simp [WordRecord.fill, h]

theorem fill_kind (h : r.place = .kind) (k : Kind) :
    r.fill (18 + k.ordinal) = some { r with kind := some k, place := .toCode, gap := 0 } := by
  simp [WordRecord.fill, h, kindOfIndex_ordinal]

theorem fill_toCode (h : r.place = .toCode) (d : Code) :
    r.fill d.val = some { r with dst := some d, place := .fromCode, gap := 0 } := by
  simp [WordRecord.fill, h, digitOfIndex_val]

theorem fill_fromCode (h : r.place = .fromCode) (d : Code) :
    r.fill d.val = some { r with src := some d, place := placeAfterCodes r.kind, gap := 0 } := by
  simp [WordRecord.fill, h, digitOfIndex_val]

theorem fill_argument (h : r.place = .argument) (d : Code) :
    r.fill d.val = some { r with arg := some d, place := .check, gap := 0 } := by
  simp [WordRecord.fill, h, digitOfIndex_val]

theorem fill_kind_misfit (h : r.place = .kind) {i : Nat} (out : i < 18 ∨ 24 < i) :
    r.fill i = none := by
  simp [WordRecord.fill, h, kindOfIndex_eq_none out]

theorem fill_digit_misfit (opening : r.place ≠ .opening) (kind : r.place ≠ .kind) {i : Nat}
    (out : 15 < i) : r.fill i = none := by
  unfold WordRecord.fill
  rw [digitOfIndex_eq_none out]
  cases h : r.place <;> first | rfl | contradiction

end Fill

/-- The record of a word once its kind and its codes are placed. -/
def WordRecord.coded (w : LineWord) (own : Bool) : WordRecord :=
  { openedWord own with
    place := placeAfterCodes (some w.kind), kind := some w.kind, dst := some w.dst, src := some w.src }

/-- The first four symbols sent for a word fill its kind and its codes. -/
theorem placeSymbols_coded (w : LineWord) (own : Bool) (o : DeliveryOrder)
    (h : s.rx.word = some (openedWord own)) :
    [attnIndex, 18 + w.kind.ordinal, w.dst.val, w.src.val].foldl (fun t i => placeSymbol i o t) s =
      setWord (some (.coded w own)) s := by
  simp only [List.foldl_cons, List.foldl_nil]
  have kind := fill_kind (r := { openedWord own with place := .kind }) rfl w.kind
  have dst := fill_toCode
    (r := { openedWord own with place := .toCode, kind := some w.kind }) rfl w.dst
  have src := fill_fromCode
    (r := { openedWord own with place := .fromCode, kind := some w.kind, dst := some w.dst }) rfl w.src
  rw [placeSymbol_fill o h (fill_opening rfl)]
  exact (congrArg (fun t => placeSymbol _ o (placeSymbol _ o t)) (placeSymbol_setWord o kind)).trans
    ((congrArg (placeSymbol _ o) (placeSymbol_setWord o dst)).trans (placeSymbol_setWord o src))

/-- The record of a whole word but its check digit. -/
def WordRecord.filled (w : LineWord) (own : Bool) : WordRecord :=
  { WordRecord.coded w own with place := .check, arg := w.arg }

theorem WordRecord.filled_word (w : LineWord) (own : Bool) (h : w.arg.isSome = w.kind.hasArgument) :
    (WordRecord.filled w own).word = some w := by
  obtain ⟨k, dst, src, arg⟩ := w
  simp only [WordRecord.word, WordRecord.filled, WordRecord.coded]
  cases arg <;> simp_all

theorem placeAfterCodes_some (k : Kind) :
    placeAfterCodes (some k) = if k.hasArgument then .argument else .check := rfl

/-- R5: the argument's symbol, where the kind has one, leaves the check digit alone to come. -/
theorem placeSymbols_argument (w : LineWord) (own : Bool) (o : DeliveryOrder)
    (h : w.arg.isSome = w.kind.hasArgument) :
    (w.arg.toList.map (·.val)).foldl (fun t i => placeSymbol i o t)
        (setWord (some (.coded w own)) s) = setWord (some (.filled w own)) s := by
  cases arg : w.arg with
  | none =>
    have place : placeAfterCodes (some w.kind) = .check := by
      rw [placeAfterCodes_some, ← h, arg]; rfl
    simp only [WordRecord.filled, WordRecord.coded, arg, place]
    rfl
  | some a =>
    have place : (WordRecord.coded w own).place = .argument := by
      simp only [WordRecord.coded]
      rw [placeAfterCodes_some, ← h, arg]; rfl
    have fits := placeSymbol_setWord (s := s) o (fill_argument place a)
    simp only [Option.toList_some, List.map_cons, List.map_nil, List.foldl_cons, List.foldl_nil, fits]
    simp only [WordRecord.filled, arg]
    rfl

/-! ## Delivery -/

/-- R49: a word that is own, or addressed elsewhere, goes to the Line View alone. -/
theorem deliver_elsewhere {own : Bool} (w : LineWord) (o : DeliveryOrder)
    (h : forThisStation own w s = false) : deliver own w o s = viewWord own w s := by
  unfold deliver onlyIf
  rw [h]
  cases o <;> rfl

theorem deliver_here {own : Bool} (w : LineWord) (o : DeliveryOrder)
    (h : forThisStation own w s = true) :
    deliver own w o s = inOrder o (viewWord own w) (auWord w) (ruWord w) s := by
  unfold deliver onlyIf
  rw [h]
  cases o <;> rfl

/-- R136: a RING, a POLL and a BREAK are no replies. -/
theorem ruWord_of_no_reply {w : LineWord} (h : w.kind = .ring ∨ w.kind = .poll ∨ w.kind = .brk) :
    ruWord w s = s := by
  have taken : ∀ r, replyTaken r w s = s := fun r => by
    obtain h | h | h := h <;> simp [replyTaken, h]
  have reverting : ∀ r, replyInRevert r w s = s := fun r => by
    obtain h | h | h := h <;> simp [replyInRevert, h]
  unfold ruWord
  split
  · rfl
  · split
    · split <;> simp only [taken, reverting]
    · rfl

/-! ## The symbol stage -/

/-- R48: the word's record after the block, its own mark brought up to date. -/
def Receiver.marked (inTx : Bool) (r : Receiver) : Option WordRecord :=
  r.word.map (·.markBlock inTx)

section Decide

variable {s : State} (p q : Pair) (own void inTx : Bool) (n : Nat) (o : DeliveryOrder)

theorem rxDecide_unusable :
    rxDecide .unusable inTx o s =
      { s with rx := ⟨s.rx.symbol.markBlock inTx, s.rx.marked inTx, s.rx.unusable + 1⟩ } := rfl

theorem rxDecide_pair_idle (h : s.rx.symbol = .idle) :
    rxDecide (.pair p) inTx o s = { s with rx := ⟨.candidate p inTx, s.rx.marked inTx, 0⟩ } := by
  simp [rxDecide, takePair, markOwn, setUnusable, setSymbol, h, SymbolRecord.markBlock,
    Receiver.marked]

theorem rxDecide_pair_again (h : s.rx.symbol = .candidate p own) :
    rxDecide (.pair p) inTx o s =
      acceptSymbol p (own && inTx)
        { s with rx := ⟨.candidate p (own && inTx), s.rx.marked inTx, 0⟩ } := by
  simp [rxDecide, takePair, markOwn, setUnusable, h, SymbolRecord.markBlock, Receiver.marked]

theorem rxDecide_pair_another (h : s.rx.symbol = .candidate p own) (ne : q ≠ p) :
    rxDecide (.pair q) inTx o s = { s with rx := ⟨.candidate q inTx, s.rx.marked inTx, 0⟩ } := by
  simp [rxDecide, takePair, markOwn, setUnusable, setSymbol, h, SymbolRecord.markBlock,
    Receiver.marked, ne.symm]

theorem rxDecide_pair_goesOn (h : s.rx.symbol = .held p n own void) :
    rxDecide (.pair p) inTx o s =
      { s with rx :=
        ⟨if void then .held p n own true else .held p (min (lengthLimit p) (n + 1)) own false,
          s.rx.marked inTx, 0⟩ } := by
  cases void <;>
    simp [rxDecide, takePair, markOwn, setUnusable, setSymbol, extendSymbol, h,
      SymbolRecord.markBlock, Receiver.marked]

theorem rxDecide_pair_breaks (h : s.rx.symbol = .held p n own void) (ne : q ≠ p) :
    rxDecide (.pair q) inTx o s =
      { s with
        rx := ⟨.candidate q inTx, none, 0⟩
        conds := { s.conds with brokenWord := s.conds.brokenWord || s.rx.word.isSome } } := by
  simp [rxDecide, takePair, markOwn, setUnusable, setSymbol, breakWord_eq, h,
    SymbolRecord.markBlock, ne.symm]

/-- A SILENT or a NOISE decision. -/
theorem rxDecide_silence {d : Decision} (h : d = .silent ∨ d = .noise) :
    rxDecide d inTx o s = takeSilence o (setUnusable 0 (markOwn inTx s)) := by
  obtain rfl | rfl := h <;> rfl

theorem rxDecide_silence_open (h : s.rx.symbol = .idle ∨ s.rx.symbol = .candidate p own)
    {d : Decision} (hd : d = .silent ∨ d = .noise) :
    rxDecide d inTx o s =
      { s with rx := ⟨.idle, (s.rx.marked inTx).map (·.silentBlock), 0⟩ } := by
  rw [rxDecide_silence inTx o hd]
  obtain h | h := h <;>
    simp [takeSilence, countSilent, markOwn, setUnusable, setSymbol, setWord, h,
      SymbolRecord.markBlock, Receiver.marked]

theorem rxDecide_silence_closes (h : s.rx.symbol = .held p n own void) {d : Decision}
    (hd : d = .silent ∨ d = .noise) :
    rxDecide d inTx o s =
      if void then { s with rx := ⟨.idle, s.rx.marked inTx, 0⟩ }
      else placeSymbol p.index o { s with rx := ⟨.idle, s.rx.marked inTx, 0⟩ } := by
  rw [rxDecide_silence inTx o hd]
  simp [takeSilence, closeSymbol, markOwn, setUnusable, setSymbol, h, SymbolRecord.markBlock,
    Receiver.marked]

end Decide

theorem acceptSymbol_attn (own : Bool) :
    acceptSymbol attnPair own s =
      { s with
        rx := ⟨.held attnPair 2 own false, some (openedWord own), s.rx.unusable⟩
        conds := { s.conds with brokenWord := s.conds.brokenWord || s.rx.word.isSome } } := by
  simp [acceptSymbol, openWord, breakWord_eq, setSymbol, setWord]

theorem acceptSymbol_other {p : Pair} (h : p ≠ attnPair) (own : Bool) :
    acceptSymbol p own s = { s with rx := { s.rx with symbol := .held p 2 own false } } := by
  simp [acceptSymbol, setSymbol, h]

/-- R37: after a SILENT or NOISE decision no symbol is held, and the unusable count is 0. -/
theorem rxDecide_silence_rx (inTx : Bool) (o : DeliveryOrder) {d : Decision}
    (h : d = .silent ∨ d = .noise) :
    (rxDecide d inTx o s).rx.symbol = .idle ∧ (rxDecide d inTx o s).rx.unusable = 0 := by
  cases symbol : s.rx.symbol with
  | idle =>
    rw [rxDecide_silence_open ⟨0, 0⟩ false inTx o (.inl symbol) h]
    exact ⟨rfl, rfl⟩
  | candidate p own =>
    rw [rxDecide_silence_open p own inTx o (.inr symbol) h]
    exact ⟨rfl, rfl⟩
  | held p n own void =>
    rw [rxDecide_silence_closes p own void inTx n o symbol h]
    cases void
    · exact ⟨congrArg Receiver.symbol (placeSymbol_rx _ _ o),
        congrArg Receiver.unusable (placeSymbol_rx _ _ o)⟩
    · exact ⟨rfl, rfl⟩

/-- R39: every decision but UNUSABLE sets the unusable count to 0. -/
theorem rxDecide_pair_unusable (p : Pair) (inTx : Bool) (o : DeliveryOrder) :
    (rxDecide (.pair p) inTx o s).rx.unusable = 0 := by
  cases symbol : s.rx.symbol with
  | idle => rw [rxDecide_pair_idle p inTx o symbol]
  | candidate q own =>
    by_cases same : p = q
    · subst same
      rw [rxDecide_pair_again p own inTx o symbol]
      by_cases attn : p = attnPair
      · rw [attn, acceptSymbol_attn]
      · rw [acceptSymbol_other _ attn]
    · rw [rxDecide_pair_another q p own inTx o symbol same]
  | held q n own void =>
    by_cases same : p = q
    · subst same
      rw [rxDecide_pair_goesOn p own void inTx n o symbol]
    · rw [rxDecide_pair_breaks q p own void inTx n o symbol same]

/-! ## The limits -/

theorem settleUnusable_due (h : 3 ≤ s.rx.unusable) :
    settleUnusable s =
      { s with
        rx := ⟨.idle, none, 0⟩
        conds := { s.conds with brokenWord := s.conds.brokenWord || s.rx.word.isSome } } := by
  rw [settleUnusable, whenDue_of_due (decide_eq_true h), takeUnusableLimit, breakWord_eq]
  rfl

theorem settleOverLong_due {p : Pair} {n : Nat} {own : Bool} (h : s.rx.symbol = .held p n own false)
    (other : p ≠ attnPair) (long : 7 ≤ n) :
    settleOverLong s =
      { s with
        rx := ⟨.held p n own true, none, s.rx.unusable⟩
        conds := { s.conds with brokenWord := s.conds.brokenWord || s.rx.word.isSome } } := by
  have due : overLongDue s = true := by simp [overLongDue, heldTo, h, other, long]
  rw [settleOverLong, whenDue_of_due due, takeOverLong, breakWord_eq]
  simp [setSymbol, h, SymbolRecord.voided]

theorem dropOpening_eq :
    dropOpening s = setWord
      (if s.rx.word.map (·.place) = some .opening then none else s.rx.word) s := by
  unfold dropOpening
  split
  · next r word =>
    rw [word]
    by_cases place : r.place = .opening
    · simp [place]
    · have self : s = setWord (some r) s := by rw [← word]; rfl
      simpa [place] using self
  · next word =>
    rw [word]
    simp [setWord, ← word]

theorem settleStuck_due {n : Nat} {own : Bool} (h : s.rx.symbol = .held attnPair n own false)
    (long : 51 ≤ n) :
    settleStuck s =
      { s with
        rx := ⟨.held attnPair n own true,
          if s.rx.word.map (·.place) = some .opening then none else s.rx.word, s.rx.unusable⟩
        conds := { s.conds with stuckTone := true } } := by
  have due : stuckDue s = true := by simp [stuckDue, heldTo, h, long]
  rw [settleStuck, whenDue_of_due due, takeStuckTone, dropOpening_eq]
  simp [setSymbol, setWord, setStuckTone, h, SymbolRecord.voided]

theorem settleGapLimit_due {r : WordRecord} (h : s.rx.word = some r) (long : 6 ≤ r.gap) :
    settleGapLimit s =
      { s with
        rx := { s.rx with word := none }
        conds := { s.conds with brokenWord := true } } := by
  have due : gapDue s = true := by simp [gapDue, h, long]
  rw [settleGapLimit, whenDue_of_due due, takeGapLimit, breakWord_eq]
  simp [h]

end Sys2Proof.Machine
end

section
/-! The statements about the line code and the Word Receiver. -/

open Sys2Proof Sys2Proof.Machine

/-- Settles O19: eight tones make 28 pairs. -/
theorem pairIndexIsItsPosition : Obligations.PairIndexIsItsPosition := by
  refine ⟨?_, ?_, ?_⟩
  · decide
  · decide
  · decide

/-- Settles O20: the model's five tests, read on the codes' values. -/
theorem wordIsValidByTheFiveTests : Obligations.WordIsValidByTheFiveTests := by
  intro w check shape
  simp only [wordValid, Bool.and_eq_true, Bool.or_eq_true, decide_eq_true_eq, code_ne_zero_iff,
    argumentValid_iff w shape, Fin.ext_iff (a := check), checkDigit_val, and_assoc]

/-- Settles O21: the symbols fill the record field by field, and the check digit completes the word. -/
theorem sentSymbolsCompleteTheWordSent : Obligations.SentSymbolsCompleteTheWordSent := by
  intro w own o s shape opened
  refine ⟨?_, rfl, ?_⟩
  · rw [← shape]
    cases arg : w.arg <;> simp [LineWord.symbols, arg]
  · have completes := placeSymbol_check (s := setWord (some (.filled w own)) s) o rfl rfl
      (digitOfIndex_val (checkDigit w.kind w.dst w.src w.arg))
    rw [completeWord_eq _ (WordRecord.filled_word w own shape)] at completes
    rw [LineWord.symbols, List.foldl_append, List.foldl_append, placeSymbols_coded s w own o opened,
      placeSymbols_argument s w own o shape]
    exact completes

/-- Settles O22: the receiver's table, one equation for each stage and decision. -/
theorem symbolStageFollowsItsTable : Obligations.SymbolStageFollowsItsTable := by
  intro p q own void inTx n o s after broken marked gapped
  refine ⟨fun idle => ?_, fun candidate => ?_, fun held => ?_,
    fun waiting d hd => rxDecide_silence_open p own inTx o waiting hd, rfl,
    (rxDecide_silence_rx s inTx o (.inl rfl)).1, (rxDecide_silence_rx s inTx o (.inr rfl)).1,
    by simp only [after, overlapBreaksReception inTx o s], rxDecide_pair_unusable s p inTx o,
    (rxDecide_silence_rx s inTx o (.inl rfl)).2, (rxDecide_silence_rx s inTx o (.inr rfl)).2,
    by simp only [after, overlapBreaksReception inTx o s], rfl⟩
  · have pair := rxDecide_pair_idle p inTx o idle
    exact ⟨congrArg (·.rx.symbol) pair, congrArg (·.markBlock inTx) idle, congrArg (·.rx.word) pair⟩
  · simp only [after, broken, rxDecide_pair_again p own inTx o candidate, rxDecide_unusable]
    refine ⟨?_, fun other => ?_, fun attn => ?_, fun ne => ?_, by rw [candidate]; rfl⟩
    · by_cases attn : p = attnPair
      · rw [attn, acceptSymbol_attn]
      · rw [acceptSymbol_other _ attn]
    · rw [acceptSymbol_other _ other]
      rfl
    · subst attn
      rw [show (⟨2, 6⟩ : Pair) = attnPair from rfl, acceptSymbol_attn]
      exact ⟨rfl, by simp [Receiver.marked]⟩
    · rw [rxDecide_pair_another p q own inTx o candidate ne]
      exact ⟨rfl, rfl⟩
  · simp only [after, broken, rxDecide_pair_goesOn p own void inTx n o held, rxDecide_unusable]
    refine ⟨rfl, rfl, fun ne => ?_, fun d hd => rxDecide_silence_closes p own void inTx n o held hd,
      by rw [held]; rfl⟩
    rw [rxDecide_pair_breaks p q own void inTx n o held ne]
    exact ⟨rfl, rfl, rfl⟩

/-- Settles O24: each limit, once it is reached. -/
theorem receiverLimitsAct : Obligations.ReceiverLimitsAct := by
  intro s powered broken
  refine ⟨fun h => ?_, fun p n own other long h => ?_, fun n own long h => ?_, fun r h long => ?_⟩
  · exact (act_of_powered powered settleUnusable).trans (congrArg _ (settleUnusable_due s h))
  · exact (act_of_powered powered settleOverLong).trans
      (congrArg _ (settleOverLong_due s h other long))
  · exact (act_of_powered powered settleStuck).trans (congrArg _ (settleStuck_due s h long))
  · exact (act_of_powered powered settleGapLimit).trans (congrArg _ (settleGapLimit_due s h long))

/-- Settles O25: the place's field is filled, or the word is broken. -/
theorem emittedSymbolIsPlaced : Obligations.EmittedSymbolIsPlaced := by
  intro i o s r put broken
  refine ⟨placeSymbol_none o, fun h => ⟨?_, ?_, ?_, ?_, ?_, ?_⟩⟩
  · rintro k place rfl
    exact placeSymbol_fill o h (fill_kind place k)
  · rintro d place rfl
    exact placeSymbol_fill o h (fill_toCode place d)
  · rintro d k place kind rfl
    rw [placeSymbol_fill o h (fill_fromCode place d), kind, placeAfterCodes_some]
    cases k <;> rfl
  · rintro d place rfl
    exact placeSymbol_fill o h (fill_argument place d)
  · intro place out
    exact placeSymbol_misfit o h (by simp [place]) (fill_kind_misfit place out)
  · intro opening kind out
    by_cases check : r.place = .check
    · exact placeSymbol_check_misfit o h check (digitOfIndex_eq_none out)
    · exact placeSymbol_misfit o h check (fill_digit_misfit opening kind out)

/-- Settles O26: the clash test, and delivery to the units that the word concerns. -/
theorem validWordIsDelivered : Obligations.ValidWordIsDelivered := by
  intro own w o s t
  have taken := takeValidWord_eq s own w o
  refine ⟨fun off => ?_, fun on other => ?_, fun on notOwn here => ⟨?_, fun h₁ h₂ h₃ u => ?_,
    fun h u => ?_⟩, fun r check word invalid => ?_⟩
  · rw [taken, off]; rfl
  · have elsewhere : forThisStation own w t = false := by
      obtain rfl | other := other
      · rfl
      · simp [forThisStation, show ownCode t = ownCode s from rfl, other]
    rw [taken, on]
    exact deliver_elsewhere t w o elsewhere
  · have mine : forThisStation own w t = true := by
      simp [forThisStation, show ownCode t = ownCode s from rfl, notOwn, here]
    rw [taken, on]
    exact deliver_here t w o mine
  · unfold auWord
    split <;> first | contradiction | rfl
  · exact ruWord_of_no_reply u h
  · rw [completeWord_eq s word, invalid]; rfl

end

section
/-! QUEUE and WITHDRAW (R72 to R74). -/

namespace Sys2Proof.Machine

variable (s : State)

/-! ## Notices -/

/-- R72, R73: the DISPLACED notices for the removed entries of other owners. -/
def displacedNotices (o : Agent) (es : List Entry) : List Event :=
  (es.filter fun e => decide (e.owner ≠ o)).map fun e => .abandoned e.owner e.word .displaced

theorem noteDisplaced_eq (o : Agent) (e : Entry) :
    noteDisplaced o e s =
      { s with inbox := s.inbox ++
          if e.owner = o then [] else [.abandoned e.owner e.word .displaced] } := by
  unfold noteDisplaced
  split
  · simp
  · rfl

theorem noteAll_eq (o : Agent) (es : List Entry) :
    es.foldl (fun t e => noteDisplaced o e t) s =
      { s with inbox := s.inbox ++ displacedNotices o es } := by
  induction es generalizing s with
  | nil => simp [displacedNotices]
  | cons e es ih =>
    rw [List.foldl_cons, ih, noteDisplaced_eq]
    by_cases same : e.owner = o <;> simp [displacedNotices, same]

theorem mem_displacedNotices {o : Agent} {es : List Entry} {e : Entry} (h : e ∈ es)
    (other : e.owner ≠ o) : .abandoned e.owner e.word .displaced ∈ displacedNotices o es :=
  List.mem_map.mpr ⟨e, List.mem_filter.mpr ⟨h, decide_eq_true other⟩, rfl⟩

/-! ## Entries kept and replaced -/

/-- Whatever of an entry its wait count leaves alone. -/
theorem promote_map {α : Type} (f : Entry → α) (h : ∀ e, f { e with wait := 0 } = f e)
    (es : List Entry) : (promote es).map f = es.map f := by
  cases es with
  | nil => rfl
  | cons e es => simp [promote, h]

theorem keepEntries_map {α : Type} (f : Entry → α) (h : ∀ e, f { e with wait := 0 } = f e)
    (keep : Entry → Bool) (es : List Entry) :
    (keepEntries keep es).map f = (es.filter keep).map f := by
  cases es with
  | nil => rfl
  | cons e es =>
    simp only [keepEntries]
    split
    · next kept => simp [kept]
    · next dropped => rw [promote_map f h, List.filter_cons_of_neg dropped]

section Supersede

variable (w : LineWord) (o : Agent)

theorem supersede_first {pre post : List Entry} {e : Entry} (same : e.word.dst = w.dst)
    (others : ∀ x ∈ pre, x.word.dst ≠ w.dst) :
    supersede w o (pre ++ e :: post) =
      some (e, pre ++ { e with word := w, owner := o } :: post) := by
  induction pre with
  | nil => simp [supersede, same]
  | cons x xs ih =>
    simp only [List.mem_cons, forall_eq_or_imp] at others
    simp [supersede, others.1, ih others.2]

theorem supersede_none {q : List Entry} (others : ∀ x ∈ q, x.word.dst ≠ w.dst) :
    supersede w o q = none := by
  induction q with
  | nil => rfl
  | cons x xs ih =>
    simp only [List.mem_cons, forall_eq_or_imp] at others
    simp [supersede, others.1, ih others.2]

theorem others_of_supersede_none {q : List Entry} (h : supersede w o q = none) :
    ∀ x ∈ q, x.word.dst ≠ w.dst := by
  induction q with
  | nil => simp
  | cons x xs ih =>
    unfold supersede at h
    split at h
    · cases h
    · next other =>
      simp only [List.mem_cons, forall_eq_or_imp]
      exact ⟨other, ih (Option.map_eq_none_iff.mp h)⟩

end Supersede

/-! ## QUEUE -/

theorem queue_offline (o : Agent) (k : Kind) (dst : Code) (arg : Option Code)
    (h : s.settings = none ∨ s.link.setupMode = true) : queue o k dst arg s = s := by
  unfold queue
  obtain unset | setup := h
  · simp [ownCode, unset]
  · split
    · rfl
    · exact if_pos setup

theorem queue_eq_place (o : Agent) (k : Kind) (dst : Code) (arg : Option Code) {own : Code}
    (code : ownCode s = some own) (mode : s.link.setupMode = false) :
    queue o k dst arg s = place o ⟨k, dst, own, arg⟩ s := by
  unfold queue
  rw [code]
  simp [mode]

section Place

variable {s : State} (o : Agent) (w : LineWord)

/-- R72: a word takes the place of the first one queued to its station. -/
theorem place_supersedes {old : Entry} {es : List Entry}
    (h : supersede w o (s.tx.queued w.kind.lane) = some (old, es)) :
    place o w s =
      afterPlacing o w
        { s with
          tx := s.tx.setEntries w.kind.lane (s.tx.flying w.kind.lane ++ es)
          inbox := s.inbox ++
            if old.owner = o then [] else [.abandoned old.owner old.word .displaced] } := by
  unfold place
  simp only [h, noteDisplaced_eq]
  rfl

/-- R72: a word joins the tail of a lane with room. -/
theorem place_joins (h : supersede w o (s.tx.queued w.kind.lane) = none)
    (room : (s.tx.entries w.kind.lane).length < w.kind.lane.capacity) :
    place o w s =
      afterPlacing o w
        { s with tx :=
            s.tx.setEntries w.kind.lane (s.tx.entries w.kind.lane ++ [⟨w, o, 0, 0, false⟩]) } := by
  unfold place
  simp only [h, if_pos room]
  rfl

/-- R72: a word is dropped from a full lane. -/
theorem place_drops (h : supersede w o (s.tx.queued w.kind.lane) = none)
    (full : w.kind.lane.capacity ≤ (s.tx.entries w.kind.lane).length) :
    place o w s =
      { s with
        conds := { s.conds with laneFull := true }
        inbox := s.inbox ++ [.abandoned o w .full] } := by
  unfold place
  simp only [h, if_neg (not_lt.mpr full)]
  rfl

theorem afterPlacing_of_ne_clear {w : LineWord} (h : w.kind ≠ .clear) : afterPlacing o w s = s :=
  if_neg h

/-- R73: what a placed CLEAR removes from the request lane, and whom it tells. -/
theorem removeRequests_eq (dst : Code) :
    removeRequests o dst s =
      { s with
        tx := s.tx.setEntries .request
          (s.tx.flying .request ++ keepEntries (fun e => !clearedBy dst e) (s.tx.queued .request))
        inbox := s.inbox ++ displacedNotices o ((s.tx.queued .request).filter (clearedBy dst)) } := by
  unfold removeRequests
  simp only [noteAll_eq]
  rfl

end Place

/-- R72: the lane and its depth, by the kind. -/
theorem lane_of_kind (k : Kind) :
    k.lane = (if k = .ring ∨ k = .poll then .request else .prompt) ∧
      k.lane.capacity = if k = .ring ∨ k = .poll then 2 else 4 := by
  cases k <;> decide

/-- R73: a CLEAR, placed by replacing `es` for the prompt lane and raising `notes`. -/
structure ClearPlaced (o : Agent) (dst : Code) (s t : State) (es : List Entry) (notes : List Event) :
    Prop where
  prompt : t.tx.prompt = es
  request : t.tx.request.map (·.word) =
    (s.tx.flying .request).map (·.word) ++
      ((s.tx.queued .request).filter fun e => decide (e.word.dst ≠ dst)).map (·.word)
  notes : ∀ n ∈ notes, n ∈ t.inbox
  cleared : ∀ e ∈ (s.tx.queued .request).filter (fun e => decide (e.word.dst = dst)),
    e.owner ≠ o → .abandoned e.owner e.word .displaced ∈ t.inbox

theorem clearPlaced_removeRequests (o : Agent) (dst : Code) (es : List Entry) (notes : List Event) :
    ClearPlaced o dst s
      (removeRequests o dst
        { s with tx := s.tx.setEntries .prompt es, inbox := s.inbox ++ notes }) es notes := by
  have flying : (s.tx.setEntries .prompt es).flying .request = s.tx.flying .request := rfl
  have queued : (s.tx.setEntries .prompt es).queued .request = s.tx.queued .request := rfl
  have kept : (fun e => !clearedBy dst e) = fun e : Entry => decide (e.word.dst ≠ dst) := by
    funext e; simp [clearedBy]
  rw [removeRequests_eq, flying, queued, kept]
  refine ⟨rfl, ?_, fun n hn => ?_, fun e he other => ?_⟩
  · simp only [Transmitter.setEntries, List.map_append]
    rw [keepEntries_map (·.word) (fun _ => rfl)]
  · exact List.mem_append_left _ (List.mem_append_right _ hn)
  · exact List.mem_append_right _ (mem_displacedNotices he other)

theorem place_clear_supersedes (o : Agent) (dst own : Code) {old : Entry} {es : List Entry}
    (h : supersede ⟨.clear, dst, own, none⟩ o (s.tx.queued .prompt) = some (old, es)) :
    ClearPlaced o dst s (place o ⟨.clear, dst, own, none⟩ s) (s.tx.flying .prompt ++ es)
      (if old.owner = o then [] else [.abandoned old.owner old.word .displaced]) := by
  rw [place_supersedes (s := s) o ⟨.clear, dst, own, none⟩ h]
  exact clearPlaced_removeRequests s o dst _ _

theorem place_clear_joins (o : Agent) (dst own : Code)
    (h : supersede ⟨.clear, dst, own, none⟩ o (s.tx.queued .prompt) = none)
    (room : s.tx.prompt.length < 4) :
    ClearPlaced o dst s (place o ⟨.clear, dst, own, none⟩ s)
      (s.tx.prompt ++ [⟨⟨.clear, dst, own, none⟩, o, 0, 0, false⟩]) [] := by
  rw [place_joins (s := s) o ⟨.clear, dst, own, none⟩ h room]
  have placed := clearPlaced_removeRequests s o dst
    (s.tx.prompt ++ [⟨⟨.clear, dst, own, none⟩, o, 0, 0, false⟩]) []
  simp only [List.append_nil] at placed
  exact placed

/-! ## WITHDRAW -/

theorem withdraw_entries (o : Agent) (dst : Code) (l : Lane) :
    (withdraw o dst s).tx.entries l =
      s.tx.flying l ++ keepEntries (fun e => !withdrawn o dst e) (s.tx.queued l) := by
  cases l <;> rfl

theorem only_withdraw (o : Agent) (dst : Code) : OnlyParts [.tx] s (withdraw o dst s) := by
  intro p hp
  cases p <;> first | rfl | simp at hp

end Sys2Proof.Machine
end

section
/-! The statements about QUEUE and WITHDRAW. -/

open Sys2Proof Sys2Proof.Machine

/-- Settles O27: the three cases of `place`, for a CLEAR with what its placing removes. -/
theorem queuePlacesTheWord : Obligations.QueuePlacesTheWord := by
  refine ⟨?_, fun o dst s off => queue_offline s _ _ _ _ off, ?_⟩
  · intro o k dst own arg s notClear w l depth
    have lane : w.kind.lane = l := (lane_of_kind k).1
    have capacity : w.kind.lane.capacity = depth := (lane_of_kind k).2
    refine ⟨queue_offline s o k dst arg, fun code mode => ?_⟩
    rw [queue_eq_place s o k dst arg code mode]
    rw [← lane, ← capacity]
    refine ⟨fun pre e post queued same others => ?_, fun others => ⟨fun room => ?_, fun full => ?_⟩⟩
    · rw [place_supersedes (s := s) o w (by rw [queued]; exact supersede_first w o same others),
        afterPlacing_of_ne_clear o notClear, List.append_assoc]
    · rw [place_joins o w (supersede_none w o others) room, afterPlacing_of_ne_clear o notClear]
    · exact place_drops o w (supersede_none w o others) full
  · intro o dst own s code mode gone t
    have placed : t = place o ⟨.clear, dst, own, none⟩ s := queue_eq_place s _ _ _ _ code mode
    rw [placed]
    refine ⟨fun pre e post queued same others => ?_, fun others room => ?_, fun placeable => ?_,
      fun others full => ?_⟩
    · have found := supersede_first ⟨.clear, dst, own, none⟩ o (post := post) same others
      rw [← queued] at found
      have result := place_clear_supersedes s o dst own found
      exact ⟨by rw [result.prompt, List.append_assoc], fun other => result.notes _ (by simp [other])⟩
    · exact (place_clear_joins s o dst own (supersede_none _ o others) room).prompt
    · cases found : supersede ⟨.clear, dst, own, none⟩ o (s.tx.queued .prompt) with
      | some r =>
        have result := place_clear_supersedes s o dst own found
        exact ⟨result.request, result.cleared⟩
      | none =>
        have room : s.tx.prompt.length < 4 := placeable.resolve_left fun ⟨x, hx, same⟩ =>
          others_of_supersede_none _ o found x hx same
        have result := place_clear_joins s o dst own found room
        exact ⟨result.request, result.cleared⟩
    · exact place_drops o ⟨.clear, dst, own, none⟩ (supersede_none _ o others) full

/-- Settles O28: each lane keeps the entry in flight and the queued ones that are not withdrawn. -/
theorem withdrawRemovesTheOwnersWords : Obligations.WithdrawRemovesTheOwnersWords := by
  intro o x s kept text t
  refine ⟨fun l => ?_, fun l e es queued => ⟨fun stays => ?_, fun owner dst f rest first => ?_⟩, rfl,
    only_withdraw s o x⟩
  · simp only [t, withdraw_entries, text, List.map_append]
    rw [keepEntries_map _ fun _ => rfl]
    rfl
  · have keep : (!withdrawn o x e) = true := by
      rw [withdrawn, ← Bool.decide_and, decide_eq_false stays]; rfl
    simp only [t, withdraw_entries, queued, keepEntries, if_pos keep]
    exact congrArg _ (List.filter_cons_of_pos (p := fun e => !withdrawn o x e) keep).symm
  · have gone : withdrawn o x e = true := by simp [withdrawn, owner, dst]
    simp only [t, withdraw_entries, queued, keepEntries, gone]
    have rest' : es.filter (fun e => !withdrawn o x e) = f :: rest := first
    simp [rest', promote]

end

section
/-! Waiting, attempts, the echo check, and how an attempt ends (R75 to R82). -/

namespace Sys2Proof.Machine

variable (s : State)

/-! ## The line voices in ordinary service -/

section Line

variable {s : State} (h : inService s = true)
include h

theorem lineHold_inService (p : Pair) :
    lineHold p s = { s with engine := { s.engine with
      v0 := ⟨true, 0, tonePhaseStep p.lo, lineLevel s⟩
      v1 := ⟨true, 0, tonePhaseStep p.hi, lineLevel s⟩ } } := if_pos h

theorem lineGap_inService :
    lineGap s = { s with engine := { s.engine with
      v0 := { s.engine.v0 with play := false }, v1 := { s.engine.v1 with play := false } } } :=
  if_pos h

theorem lineStop_inService :
    lineStop s = { s with engine := { s.engine with
      v0 := { s.engine.v0 with play := false }, v1 := { s.engine.v1 with play := false } } } :=
  if_pos h

/-- R78: an attempt starts with ATTN's hold. -/
theorem startAttempt_inService (l : Lane) (checked : Bool) :
    startAttempt l checked s =
      { s with
        tx := s.tx.started l checked
        engine := { s.engine with
          v0 := ⟨true, 0, 7782, lineLevel s⟩, v1 := ⟨true, 0, 16384, lineLevel s⟩ } } := by
  rw [startAttempt_eq, lineHold_inService (s := { s with tx := s.tx.started l checked }) h]
  rfl

end Line

/-! ## The candidate -/

theorem headMarked_cons (e : Entry) (es : List Entry) : headMarked (e :: es) = e.retry := rfl

/-- R76: a marked head comes first, the prompt lane's before the request lane's; then the prompt lane. -/
theorem candidate_of_entries {t : Transmitter} {l : Lane} {e : Entry} {rest : List Entry}
    (entries : t.entries l = e :: rest)
    (h : l = .prompt ∧ (e.retry = true ∨ headMarked t.request = false) ∨
      l = .request ∧ (t.prompt = [] ∨ e.retry = true ∧ headMarked t.prompt = false)) :
    t.candidate = some l := by
  unfold Transmitter.candidate
  obtain ⟨rfl, h⟩ | ⟨rfl, h⟩ := h
  · have prompt : t.prompt = e :: rest := entries
    rw [prompt, headMarked_cons]
    cases retry : e.retry
    · have unmarked : headMarked t.request = false := h.resolve_left (by simp [retry])
      simp [unmarked]
    · simp
  · have request : t.request = e :: rest := entries
    rw [request, headMarked_cons]
    obtain empty | ⟨retry, unmarked⟩ := h
    · cases retry : e.retry <;> simp [empty, headMarked]
    · simp [retry, unmarked]

theorem startHead_cons (e : Entry) (es : List Entry) :
    startHead (e :: es) = { e with attempts := e.attempts + 1, retry := false } :: es := rfl

/-! ## Waiting -/

theorem hasEntry_iff (t : Transmitter) :
    t.hasEntry = false ↔ t.prompt = [] ∧ t.request = [] := by
  simp [Transmitter.hasEntry]

theorem raiseHead_eq (limit : Nat) (es : List Entry) :
    raiseHead limit es = match es with
      | [] => []
      | e :: rest => { e with wait := min limit (e.wait + 1) } :: rest := by
  cases es <;> rfl

theorem promote_eq (es : List Entry) :
    promote es = match es with
      | [] => []
      | e :: rest => { e with wait := 0 } :: rest := by
  cases es <;> rfl

section Waiting

variable {s : State}

theorem applyWaiting_empty (h : s.tx.prompt = [] ∧ s.tx.request = []) : applyWaiting s = s := by
  rw [applyWaiting, (hasEntry_iff _).mpr h]; rfl

theorem applyWaiting_quiet_line (h : ¬(s.tx.prompt = [] ∧ s.tx.request = []))
    (quiet : s.tx.quiet = 3) : applyWaiting s = { s with tx.startDue := true } := by
  rw [applyWaiting, if_pos (by simpa using mt (hasEntry_iff _).mp h), if_pos quiet]

theorem applyWaiting_raises (h : ¬(s.tx.prompt = [] ∧ s.tx.request = []))
    (quiet : s.tx.quiet ≠ 3) :
    applyWaiting s =
      { s with
        tx.prompt := raiseHead 100 s.tx.prompt
        tx.request := raiseHead 250 s.tx.request } := by
  rw [applyWaiting, if_pos (by simpa using mt (hasEntry_iff _).mp h), if_neg quiet]

end Waiting

/-! ## The echo check -/

section Echo

variable {w : LineWord} {pos : Nat} (d : Decision)

theorem echoPasses_first (h : offsetAt pos = 0) : echoPasses w pos d = true := by
  simp [echoPasses, h]

theorem echoPasses_hold (h : offsetAt pos ≠ 0) (hold : offsetAt pos < holdLength (symbolAt pos)) :
    echoPasses w pos d = true ↔ d = .pair (w.pairAt (symbolAt pos)) := by
  simp [echoPasses, h, hold]

theorem echoPasses_gap (h : offsetAt pos ≠ 0) (gap : holdLength (symbolAt pos) ≤ offsetAt pos) :
    echoPasses w pos d = true ↔ d = .silent ∨ d = .noise ∨ d = .unusable := by
  simp only [echoPasses, if_neg h, if_neg (not_lt.mpr gap)]
  cases d <;> simp

end Echo

section Span

variable {w : LineWord}

theorem symbols_length (w : LineWord) : w.symbols.length = if w.arg.isSome then 6 else 5 := by
  cases arg : w.arg <;> simp [LineWord.symbols, arg]

/-- R5: a word without an argument spans 30 blocks, one with an argument 35. -/
theorem span_eq (w : LineWord) : w.span = if w.arg.isSome then 35 else 30 := by
  rw [LineWord.span, symbols_length]
  split <;> rfl

theorem pairAt_fourth (w : LineWord) :
    w.pairAt 4 = pairOf (w.arg.getD (checkDigit w.kind w.dst w.src none)).val := by
  cases arg : w.arg <;> simp [LineWord.pairAt, LineWord.symbols, arg]

theorem pairAt_fifth (h : w.arg.isSome = true) :
    w.pairAt 5 = pairOf (checkDigit w.kind w.dst w.src w.arg).val := by
  obtain ⟨a, arg⟩ := Option.isSome_iff_exists.mp h
  simp [LineWord.pairAt, LineWord.symbols, arg]

end Span

/-! ## The decisions of an attempt -/

section Attempt

variable {s : State} {a : Attempt} {e : Entry} {rest : List Entry} {d : Decision}
  (attempt : s.tx.attempt = some a) (entries : s.tx.entries a.lane = e :: rest)
include attempt entries

theorem txDecide_goesOn (passes : a.checked = true → echoPasses e.word a.pos d = true)
    (more : a.pos + 1 < e.word.span) :
    txDecide d s = boundaryCommand e.word (a.pos + 1)
      { s with tx := { s.tx with attempt := some ⟨a.lane, a.pos + 1, a.checked⟩, quiet := 0 } } := by
  have passed : (a.checked && !echoPasses e.word a.pos d) = false := by
    cases hc : a.checked
    · rfl
    · rw [passes hc]; rfl
  rw [txDecide_of_attempt attempt]
  unfold txAttemptDecide
  simp only [entries, passed, if_pos more]
  rfl

theorem txDecide_completes (passes : a.checked = true → echoPasses e.word a.pos d = true)
    (last : e.word.span ≤ a.pos + 1) :
    txDecide d s =
      emit (.sent e.owner e.word)
        { s with tx := s.tx.retried a.lane (promote rest) s.tx.backOff } := by
  have passed : (a.checked && !echoPasses e.word a.pos d) = false := by
    cases hc : a.checked
    · rfl
    · rw [passes hc]; rfl
  rw [txDecide_of_attempt attempt, ← completeAttempt_eq]
  unfold txAttemptDecide
  simp only [entries, passed, if_neg (not_lt.mpr last)]
  rfl

theorem txDecide_spoiled (checked : a.checked = true) (fails : echoPasses e.word a.pos d = false) :
    txDecide d s = spoil a.lane e rest { s with tx.quiet := 0 } := by
  rw [txDecide_of_attempt attempt]
  unfold txAttemptDecide
  simp only [entries, checked, fails]
  rfl

end Attempt

section TakeOut

variable {dst : Code}

theorem takeOut_none {q : List Entry} (others : ∀ x ∈ q, x.word.dst ≠ dst) : takeOut dst q = none := by
  induction q with
  | nil => rfl
  | cons x xs ih =>
    simp only [List.mem_cons, forall_eq_or_imp] at others
    simp [takeOut, others.1, ih others.2]

theorem takeOut_first {pre post : List Entry} {x : Entry} (same : x.word.dst = dst)
    (others : ∀ y ∈ pre, y.word.dst ≠ dst) :
    takeOut dst (pre ++ x :: post) = some (x, pre ++ post) := by
  induction pre with
  | nil => simp [takeOut, same]
  | cons y ys ih =>
    simp only [List.mem_cons, forall_eq_or_imp] at others
    simp [takeOut, others.1, ih others.2]

end TakeOut

end Sys2Proof.Machine
end

section
/-! The statements about waiting and attempts. -/

open Sys2Proof Sys2Proof.Machine

/-- Settles O29: the candidate, or the prompt lane's head, starts with ATTN. -/
theorem attemptStartsWithAttn : Obligations.AttemptStartsWithAttn := by
  intro s l e rest powered on idle entries sent
  have started : ∀ checked, startAttempt l checked s = sent checked := fun checked => by
    rw [startAttempt_inService on, Transmitter.started, entries, startHead_cons]
  refine ⟨fun due first => ?_, fun prompt waited => ?_⟩
  · have dueNow : checkedStartDue s = true := by simp [checkedStartDue, due, idle]
    have taken : settleStart s = sent true := by
      rw [settleStart, whenDue_of_due dueNow, takeStart, candidate_of_entries entries first]
      exact started true
    exact (act_of_powered powered settleStart).trans (congrArg _ taken)
  · subst prompt
    have head : s.tx.prompt = e :: rest := entries
    have dueNow : talkOverDue s = true := by simp [talkOverDue, idle, head, headWaited, waited]
    have taken : settleTalkOver s = sent false := by
      rw [settleTalkOver, whenDue_of_due dueNow, started]
    exact (act_of_powered powered settleTalkOver).trans (congrArg _ taken)

/-- Settles O30: the waiting rules, at a decision and at the end of a back-off. -/
theorem waitingEndsOrGoesOn : Obligations.WaitingEndsOrGoesOn := by
  intro s powered raised empty
  have raise : raiseHead = raised := funext fun limit => funext (raiseHead_eq limit)
  refine ⟨fun e rest head waited idle => ?_, fun due => ?_, ?_⟩
  · have dueNow : requestWaitDue s = true := by simp [requestWaitDue, idle, head, headWaited, waited]
    have taken : settleRequestWait s = finish (takeRequestWaitLimit s) := if_pos dueNow
    rw [takeRequestWaitLimit, head] at taken
    simp only [promote_eq] at taken
    exact (act_of_powered powered settleRequestWait).trans (congrArg _ taken)
  · have ended : exec .backOffEnd s = .next (applyWaiting { s with tx.backOffDue := false }) :=
      (act_of_powered powered settleBackOff).trans (congrArg _ (whenDue_of_due due))
    rw [ended]
    refine ⟨fun h => congrArg _ (applyWaiting_empty h),
      fun h still => congrArg _ (applyWaiting_quiet_line h still), fun h busy => congrArg _ ?_⟩
    rw [← raise]
    exact applyWaiting_raises h busy
  · intro d idle quiet
    rw [txDecide_of_no_attempt idle, txIdleDecide]
    refine ⟨fun none_left => ?_, fun some_left => if_neg some_left⟩
    rw [if_pos none_left]
    refine ⟨fun h => applyWaiting_empty h, fun h still => applyWaiting_quiet_line h still,
      fun h busy => ?_⟩
    rw [← raise]
    exact applyWaiting_raises h busy

/-- Settles O32: each position's place in its symbol, and the symbol's pair. -/
theorem echoCheckFollowsItsTable : Obligations.EchoCheckFollowsItsTable := by
  intro w pos d shape inSpan passes must
  have firsts : ∀ p ∈ [0, 10, 15, 20, 25, 30], offsetAt p = 0 := by decide
  have attn : ∀ p, 1 ≤ p ∧ p ≤ 7 → offsetAt p ≠ 0 ∧ offsetAt p < holdLength (symbolAt p) ∧
      symbolAt p = 0 := fun p ⟨low, high⟩ => by interval_cases p <;> decide
  have held : ∀ n, ∀ p ∈ [5 * n + 11, 5 * n + 12], n ≤ 4 →
      offsetAt p ≠ 0 ∧ offsetAt p < holdLength (symbolAt p) ∧ symbolAt p = n + 1 := by
    intro n p hp le
    interval_cases n <;> revert p <;> decide
  have gaps : ∀ p ∈ [8, 9, 13, 14, 18, 19, 23, 24, 28, 29, 33, 34],
      offsetAt p ≠ 0 ∧ holdLength (symbolAt p) ≤ offsetAt p := by decide
  have symbol : ∀ n, n ≤ 4 → pos ∈ [5 * n + 11, 5 * n + 12] →
      (passes = true ↔ d = .pair (w.pairAt (n + 1))) := fun n le hp => by
    obtain ⟨inside, hold, at_n⟩ := held n pos hp le
    rw [← at_n]
    exact echoPasses_hold d inside hold
  refine ⟨fun h => echoPasses_first d (firsts pos h), fun h => ?_, symbol 0 (by decide),
    symbol 1 (by decide), symbol 2 (by decide), fun h => ?_, fun h => ?_, fun h => ?_⟩
  · obtain ⟨inside, hold, at_zero⟩ := attn pos h
    exact (echoPasses_hold d inside hold).trans (by rw [at_zero]; rfl)
  · exact (symbol 3 (by decide) h).trans (by rw [pairAt_fourth])
  · have argued : w.arg.isSome = true := by
      rw [span_eq] at inSpan
      by_contra without
      rw [if_neg without] at inSpan
      simp only [List.mem_cons, List.not_mem_nil, or_false] at h
      omega
    exact (symbol 4 (by decide) h).trans (by rw [pairAt_fifth argued])
  · obtain ⟨inside, gap⟩ := gaps pos h
    exact echoPasses_gap d inside gap

/-- Settles O33: the boundary's command by its place in the span, and the end of the last gap. -/
theorem attemptGoesOnAndWordIsSent : Obligations.AttemptGoesOnAndWordIsSent := by
  intro a e rest d s attempt entries passes
  refine ⟨?_, fun last => ?_⟩
  · intro more on n p after
    have goesOn := txDecide_goesOn attempt entries passes more
    have command : ∀ t, boundaryCommand e.word n t =
        if offsetAt n = 0 then lineHold (e.word.pairAt (symbolAt n)) t
        else if offsetAt n = holdLength (symbolAt n) then lineGap t else t := fun _ => rfl
    have onNow : inService (after s.engine) = true := on
    have late : 10 ≤ n → offsetAt n = n % 5 ∧ symbolAt n = (n - 10) / 5 + 1 ∧
        holdLength (symbolAt n) = 3 := fun ten => by
      have notFirst : ¬n < 10 := by omega
      refine ⟨?_, if_neg notFirst, ?_⟩
      · rw [offsetAt, if_neg notFirst]; omega
      · rw [symbolAt, if_neg notFirst]; rfl
    have early : n < 10 → offsetAt n = n ∧ holdLength (symbolAt n) = 8 := fun few => by
      refine ⟨if_pos few, ?_⟩
      rw [symbolAt, if_pos few]; rfl
    rw [goesOn]
    refine ⟨fun ten hold => ?_, fun gap => ?_, fun between => ?_⟩
    · obtain ⟨offset, symbol, -⟩ := late ten
      rw [command, if_pos (offset.trans hold), symbol]
      exact lineHold_inService onNow p
    · have gapped : offsetAt n ≠ 0 ∧ offsetAt n = holdLength (symbolAt n) := by
        obtain eight | ⟨ten, three⟩ := gap
        · obtain ⟨offset, hold⟩ := early (by omega)
          omega
        · obtain ⟨offset, -, hold⟩ := late ten
          omega
      rw [command, if_neg gapped.1, if_pos gapped.2]
      exact lineGap_inService onNow
    · have inside : offsetAt n ≠ 0 ∧ offsetAt n ≠ holdLength (symbolAt n) := by
        by_cases ten : 10 ≤ n
        · obtain ⟨offset, -, hold⟩ := late ten
          omega
        · obtain ⟨offset, hold⟩ := early (by omega)
          have : 1 ≤ n := Nat.le_add_left 1 a.pos
          omega
      rw [command, if_neg inside.1, if_neg inside.2]
  · rw [txDecide_completes attempt entries passes last]
    cases a.lane <;> rfl

/-- Settles O34: what a spoiled entry becomes, with a newer word queued to its station and without one. -/
theorem spoiledAttemptBacksOffOrGivesUp : Obligations.SpoiledAttemptBacksOffOrGivesUp := by
  intro a e rest d own s on code attempt checked entries fails after
  have spoiled := txDecide_spoiled attempt entries checked fails
  refine ⟨fun few others => ?_, fun pre x post few shape same others => ?_, fun fifth => ?_⟩
  · rw [spoiled, spoil_retry s few, retryNotice, retryEntries, takeOut_none others,
      lineStop_inService on, code]
    rfl
  · have found : takeOut e.word.dst rest = some (x, pre ++ post) := by
      rw [shape]; exact takeOut_first same others
    rw [spoiled, spoil_retry s few, retryNotice, retryEntries, found, lineStop_inService on, code]
    exact noteDisplaced_eq _ _ _
  · rw [spoiled, spoil_giveUp s (by omega), lineStop_inService on]
    rfl

end

section
/-! The cadence scripts: starts and stops, the steps of a script, and the events they raise. -/

namespace Sys2Proof.Machine

variable (s : State)

/-! ## Voices -/

@[simp] theorem voice_setVoice_same (e : Engine) (v : ScriptVoice) (c : CadenceVoice) :
    (e.setVoice v c).voice v = c := by
  cases v <;> rfl

@[simp] theorem setVoice_setVoice_engine (e : Engine) (v : ScriptVoice) (c d : CadenceVoice) :
    (e.setVoice v c).setVoice v d = e.setVoice v d := by
  cases v <;> rfl

/-! ## START and the stops -/

theorem startBarred_iff (sc : Script) :
    startBarred sc s = true ↔
      sc.voice = .earpiece ∧ s.engine.offHook = false ∨
        sc.voice = .ringer ∧ (isTrunkEnd s = true ∨ inService s = false) := by
  unfold startBarred
  cases sc.voice <;> simp

theorem outranked_iff (sc : Script) (c : CadenceVoice) :
    outranked sc c = true ↔ ∃ old, c.script = some old ∧ sc.rank < old.rank := by
  unfold outranked
  cases c.script <;> simp

section Start

variable {s : State} {a : Agent} {sc : Script}

theorem start_refused
    (h : startBarred sc s = true ∨ outranked sc (s.engine.voice sc.voice) = true) :
    start a sc s = { s with inbox := s.inbox ++ [.lost a sc] } := by
  rw [start, if_pos (by simpa using h)]
  rfl

/-- R61: the lost event of a replaced script. -/
def replacedNotice (a : Agent) (c : CadenceVoice) : List Event :=
  match c.script, c.starter with
  | some old, some b => if b = a then [] else [.lost b old]
  | _, _ => []

theorem noteReplaced_eq (a : Agent) (c : CadenceVoice) (s : State) :
    noteReplaced a c s = { s with inbox := s.inbox ++ replacedNotice a c } := by
  unfold noteReplaced replacedNotice
  cases c.script with
  | none => simp
  | some old =>
    cases c.starter with
    | none => simp
    | some b => by_cases same : b = a <;> simp [same, emit]

theorem start_taken
    (h : ¬(startBarred sc s = true ∨ outranked sc (s.engine.voice sc.voice) = true)) :
    start a sc s =
      { s with
        engine := s.engine.setVoice sc.voice ((s.engine.voice sc.voice).loaded sc a)
        inbox := s.inbox ++ replacedNotice a (s.engine.voice sc.voice) } := by
  rw [start, if_neg (by simpa using h)]
  exact noteReplaced_eq _ _ _

end Start

section Stop

variable {s : State} {a : Agent} {v : ScriptVoice}

theorem startedBy_iff (a : Agent) (c : CadenceVoice) :
    startedBy a c = true ↔ c.script ≠ none ∧ c.starter = some a := by
  simp [startedBy, Option.isSome_iff_ne_none]

theorem startedBy_of {c : CadenceVoice} {sc : Script} (script : c.script = some sc)
    (starter : c.starter = some a) : startedBy a c = true :=
  (startedBy_iff a c).mpr ⟨by rw [script]; nofun, starter⟩

theorem noteIdle_eq (v : ScriptVoice) (s : State) :
    noteIdle v s = { s with inbox := s.inbox ++ if v = .ringer then [.ringerFree] else [] } := by
  cases v
  · simp [noteIdle]
  · rfl

theorem stopNow_started (h : startedBy a (s.engine.voice v) = true) :
    stopNow a v s =
      { s with
        engine := s.engine.setVoice v (s.engine.voice v).idled
        inbox := s.inbox ++ if v = .ringer then [.ringerFree] else [] } := by
  rw [stopNow, if_pos h, noteIdle_eq]
  rfl

theorem stopNow_ignored (h : startedBy a (s.engine.voice v) = false) : stopNow a v s = s := by
  rw [stopNow, h]
  rfl

theorem stopAtCycle_started (h : startedBy a (s.engine.voice v) = true) :
    stopAtCycle a v s =
      { s with engine := s.engine.setVoice v { s.engine.voice v with stopPending := true } } :=
  if_pos h

theorem stopAtCycle_ignored (h : startedBy a (s.engine.voice v) = false) : stopAtCycle a v s = s := by
  rw [stopAtCycle, h]
  rfl

end Stop

/-! ## The steps of a script -/

/-- R60: the finish event of a script that ends. -/
def finishNotice (c : CadenceVoice) (sc : Script) : List Event :=
  match c.starter with
  | some a => [.finish a sc]
  | none => []

section Run

variable {s : State} {v : ScriptVoice} {sc : Script} {i fuel : Nat}
  (script : (s.engine.voice v).script = some sc)
include script

theorem endScript_eq :
    endScript v s =
      { s with
        engine := s.engine.setVoice v (s.engine.voice v).idled
        inbox := s.inbox ++ finishNotice (s.engine.voice v) sc ++
          if v = .ringer then [.ringerFree] else [] } := by
  unfold endScript finishNotice
  simp only [script, noteIdle_eq]
  cases (s.engine.voice v).starter with
  | none => simp [setVoice]
  | some a => rfl

theorem runScript_sound {p : Pitch} {n : Nat} (step : sc.steps[i]? = some (.sound p n)) :
    runScript (fuel + 1) v i s = beginSound v i p n s := by
  simp [runScript, script, step]

theorem runScript_quiet {n : Nat} (step : sc.steps[i]? = some (.quiet n)) :
    runScript (fuel + 1) v i s = beginQuiet v i n s := by
  simp [runScript, script, step]

/-- R59: a MARK goes on with the step behind it, unless a stop is pending. -/
theorem runScript_mark (step : sc.steps[i]? = some .mark)
    (goesOn : (s.engine.voice v).stopPending = false) :
    runScript (fuel + 1) v i s =
      runScript fuel v (i + 1) (sendCycle (s.engine.voice v).starter sc s) := by
  simp [runScript, script, step, goesOn]

theorem runScript_mark_stops (step : sc.steps[i]? = some .mark)
    (stop : (s.engine.voice v).stopPending = true) :
    runScript (fuel + 1) v i s = endScript v s := by
  simp [runScript, script, step, stop]

theorem runScript_again {n plays : Nat} (step : sc.steps[i]? = some (.again n))
    (again : repeatPlays n (s.engine.voice v) = some plays) :
    runScript (fuel + 1) v i s =
      runScript fuel v 0 (setVoice v { s.engine.voice v with plays := plays } s) := by
  simp [runScript, script, step, again]

theorem runScript_again_ends {n : Nat} (step : sc.steps[i]? = some (.again n))
    (last : repeatPlays n (s.engine.voice v) = none) :
    runScript (fuel + 1) v i s = endScript v s := by
  simp [runScript, script, step, last]

end Run

theorem runScript_idle {s : State} {v : ScriptVoice} (h : (s.engine.voice v).script = none)
    (i fuel : Nat) : runScript (fuel + 1) v i s = s := by
  simp [runScript, h]

/-- R59: CYCLE reaches the Answer Unit alone, which heeds its ringer scripts and its URGENT-CALL. -/
theorem sendCycle_unheeded {c : CadenceVoice} {sc : Script}
    (h : c.starter ≠ some .answerUnit ∨ sc.voice = .earpiece ∧ sc ≠ .urgentCall) :
    sendCycle c.starter sc s = s := by
  unfold sendCycle
  split
  · next au =>
    obtain ⟨ear, other⟩ := h.resolve_left (fun ne => ne au)
    unfold auCycle
    split
    · split <;> simp [ear, other]
    · rfl
  all_goals rfl

section Timed

variable {s : State} {v : ScriptVoice} (begun : (s.engine.voice v).begun = true)
include begun

/-- R58: a SOUND step, begun in a script that has begun. -/
theorem beginSound_eq (i : Nat) (p : Pitch) (n : Nat) :
    beginSound v i p n s =
      { s with
        engine := s.engine.setVoice v
          { s.engine.voice v with index := i, remaining := n, step := p.step, phase := 0 } } := by
  simp [beginSound, setVoice, begun]

theorem beginQuiet_eq (i n : Nat) :
    beginQuiet v i n s =
      { s with
        engine := s.engine.setVoice v
          { s.engine.voice v with index := i, remaining := n } } := by
  simp [beginQuiet, setVoice, begun]

end Timed

theorem repeatPlays_forever {c : CadenceVoice} (h : c.stopPending = false) :
    repeatPlays 0 c = some c.plays := by
  simp [repeatPlays, h]

theorem repeatPlays_more {c : CadenceVoice} {n : Nat} (h : c.stopPending = false) (pos : 1 ≤ n)
    (more : c.plays < n) : repeatPlays n c = some (c.plays + 1) := by
  simp [repeatPlays, h, Nat.ne_of_gt pos, more]

theorem repeatPlays_last {c : CadenceVoice} {n : Nat} (pos : 1 ≤ n) (last : n ≤ c.plays) :
    repeatPlays n c = none := by
  simp [repeatPlays, Nat.ne_of_gt pos, Nat.not_lt.mpr last]

/-- R57: SCRIPT_STEP_END on a voice whose timed step is over. -/
theorem exec_scriptStepEnd {s : State} {v : ScriptVoice} {sc : Script} (powered : s.powered = true)
    (script : (s.engine.voice v).script = some sc) (begun : (s.engine.voice v).begun = true)
    (elapsed : (s.engine.voice v).remaining = 0) :
    exec (.scriptStepEnd v) s =
      .next (finish (runScript (19 + 1) v ((s.engine.voice v).index + 1) s)) := by
  have due : scriptStepDue v s = true := by simp [scriptStepDue, script, begun, elapsed]
  exact (act_of_powered powered (settleScript v)).trans (congrArg _ (whenDue_of_due due))

/-! ## The events -/

theorem drain_single {e : Event} (h : s.inbox = [e])
    (quiet : (takeEvent e { s with inbox := [] }).inbox = []) (n : Nat) :
    drain (n + 2) s = takeEvent e { s with inbox := [] } := by
  unfold drain
  rw [h]
  simp only
  unfold drain
  rw [quiet]

/-- One event, which raises none: the command ends with it. -/
theorem finish_single {e : Event} (h : s.inbox = [e])
    (quiet : (takeEvent e { s with inbox := [] }).inbox = []) :
    finish s = followDial (takeEvent e { s with inbox := [] }) :=
  congrArg followDial (drain_single s h quiet 62)

/-- Two events, of which the first changes nothing and the second raises none. -/
theorem finish_pair {e f : Event} (h : s.inbox = [e, f])
    (first : takeEvent e { s with inbox := [f] } = { s with inbox := [f] })
    (quiet : (takeEvent f { s with inbox := [] }).inbox = []) :
    finish s = followDial (takeEvent f { s with inbox := [] }) := by
  refine congrArg followDial ?_
  change drain (63 + 1) s = _
  unfold drain
  rw [h]
  simp only [first]
  exact drain_single { s with inbox := [f] } rfl quiet 61

/-- R143: of the scripts that end, ERROR alone concerns another block than the Answer Unit. -/
theorem takeFinish_unheeded {a : Agent} {sc : Script} (h : sc.voice = .ringer) :
    takeEvent (.finish a sc) s = s := by
  cases a with
  | requestUnit =>
    have other : sc ≠ .error := by rintro rfl; cases h
    change ruFinish sc s = s
    unfold ruFinish
    split
    · split <;> simp [other]
    · rfl
  | answerUnit | lineView | dialDecoder => rfl

theorem auRingerFree_still {s : State} {c : Call} (slot : s.answer.slot = some c)
    (h : c.phase ≠ .ringing .ringer) : auRingerFree s = s := by
  simp [auRingerFree, slot, h]

/-! ## Scripts that go on after their REPEAT -/

section Restart

variable {s : State} {v : ScriptVoice} {sc : Script} {i n fuel : Nat}
  (script : (s.engine.voice v).script = some sc)
  (mark : sc.steps[i]? = some .mark) (again : sc.steps[i + 1]? = some (.again n))
  (goesOn : (s.engine.voice v).stopPending = false)
  (cycle : (sendCycle (s.engine.voice v).starter sc s).engine.voice v = s.engine.voice v)
include script mark again goesOn cycle

/-- R59, R60: a MARK and a REPEAT that begins step 0 again. -/
theorem runScript_restarts {p : Pitch} {k plays : Nat} (first : sc.steps[0]? = some (.sound p k))
    (begun : (s.engine.voice v).begun = true)
    (repeats : repeatPlays n (s.engine.voice v) = some plays) :
    runScript (fuel + 3) v i s =
      let t := sendCycle (s.engine.voice v).starter sc s
      { t with
        engine := t.engine.setVoice v
          { s.engine.voice v with
            index := 0, remaining := k, step := p.step, phase := 0, plays := plays } } := by
  rw [runScript_mark script mark goesOn, runScript_again (by rw [cycle]; exact script) again
    (by rw [cycle]; exact repeats), runScript_sound (sc := sc) (by simpa [setVoice, cycle] using script)
    first, beginSound_eq (by simpa [setVoice, cycle] using begun)]
  simp [setVoice, cycle]

/-- R60: a MARK and a REPEAT that acts as END. -/
theorem runScript_ends (last : repeatPlays n (s.engine.voice v) = none) :
    runScript (fuel + 2) v i s = endScript v (sendCycle (s.engine.voice v).starter sc s) := by
  rw [runScript_mark script mark goesOn, runScript_again_ends (by rw [cycle]; exact script) again
    (by rw [cycle]; exact last)]

end Restart

/-! ## The ringing cycles that the Answer Unit counts -/

section Count

variable {s : State} {c : Call}

theorem countCycle_more (h : c.cycles + 1 < cycleLimit s) (v : ScriptVoice) :
    countCycle c v s = setSlot (some { c with cycles := c.cycles + 1 }) s :=
  if_neg (Nat.not_le.mpr h)

/-- R112: at the limit the slot is EXPIRED and the Answer Unit's voice stops. -/
theorem countCycle_limit {v : ScriptVoice} (h : cycleLimit s ≤ c.cycles + 1)
    (started : startedBy .answerUnit (s.engine.voice v) = true) :
    countCycle c v s =
      { s with
        engine := s.engine.setVoice v (s.engine.voice v).idled
        answer := { s.answer with slot := some { c with phase := .expired, cycles := c.cycles + 1 } }
        inbox := s.inbox ++ if v = .ringer then [.ringerFree] else [] } := by
  rw [countCycle]
  simp only [if_pos h]
  rw [slotExpired, stopNow_started (by exact started)]
  rfl

theorem auCycle_ringer {sc : Script} (slot : s.answer.slot = some c)
    (ringing : c.phase = .ringing .ringer) (bell : sc.voice = .ringer) :
    auCycle sc s = countCycle c .ringer s := by
  simp [auCycle, slot, ringing, bell]

theorem auCycle_urgentCall (slot : s.answer.slot = some c) (ringing : c.phase = .ringing .earpiece) :
    auCycle .urgentCall s = countMark c s := by
  simp [auCycle, slot, ringing]

end Count

theorem ringerScript_voice (k : CallClass) : (ringerScript k s).voice = .ringer := by
  cases k <;> rfl

/-- R122: ringer free starts the class's ringer script again on the voice that has become idle. -/
theorem auRingerFree_rings {s : State} {c : Call} (slot : s.answer.slot = some c)
    (ringing : c.phase = .ringing .ringer) (onHook : s.answer.offHook = false)
    (farm : isTrunkEnd s = false) (on : inService s = true) (idle : s.engine.bell.script = none) :
    auRingerFree s =
      { s with engine.bell := s.engine.bell.loaded (ringerScript c.cls s) .answerUnit } := by
  have bell := ringerScript_voice s c.cls
  have taken : ¬(startBarred (ringerScript c.cls s) s = true ∨
      outranked (ringerScript c.cls s) (s.engine.voice (ringerScript c.cls s).voice) = true) := by
    rw [startBarred_iff, outranked_iff, bell]
    simp [farm, on, Engine.voice, idle]
  rw [auRingerFree, slot]
  simp only [ringing, onHook, and_self, if_true]
  rw [start_taken taken, bell]
  simp only [Engine.voice, Engine.setVoice, replacedNotice, idle, List.append_nil]

/-- R122: another block's script has ended on voice 3 while the slot rings on-hook. -/
theorem finish_bellDisplaced {s : State} {c : Call} {a : Agent} {sc : Script}
    (slot : s.answer.slot = some c) (ringing : c.phase = .ringing .ringer)
    (onHook : s.answer.offHook = false) (farm : isTrunkEnd s = false) (on : inService s = true)
    (idle : s.engine.bell.script = none) (bell : sc.voice = .ringer)
    (events : s.inbox = [.finish a sc, .ringerFree]) :
    finish s = followDial
      { s with
        engine.bell := s.engine.bell.loaded (ringerScript c.cls s) .answerUnit, inbox := [] } := by
  have rings : takeEvent .ringerFree { s with inbox := [] } = _ :=
    auRingerFree_rings (s := { s with inbox := [] }) slot ringing onHook farm on idle
  rw [finish_pair s events (takeFinish_unheeded _ bell) (by rw [rings]), rings]
  rfl

/-! ## The Answer Unit's own scripts at their MARK -/

section Own

variable {s : State} {v : ScriptVoice} {sc : Script} {c d : Call}
  (ready : Ready s) (script : (s.engine.voice v).script = some sc)
  (begun : (s.engine.voice v).begun = true) (elapsed : (s.engine.voice v).remaining = 0)
  (goesOn : (s.engine.voice v).stopPending = false)
  (mark : sc.steps[(s.engine.voice v).index + 1]? = some .mark)
include ready script begun elapsed goesOn mark

/-- R112, R113: a cycle or a mark that leaves the slot ringing: the script begins again. -/
theorem exec_scriptStepEnd_counted
    (again : sc.steps[(s.engine.voice v).index + 1 + 1]? = some (.again 0)) {p : Pitch} {k : Nat}
    (first : sc.steps[0]? = some (.sound p k))
    (heard : sendCycle (s.engine.voice v).starter sc s = setSlot (some d) s) :
    exec (.scriptStepEnd v) s = .next (followDial
      { s with
        engine := s.engine.setVoice v
          { s.engine.voice v with index := 0, remaining := k, step := p.step, phase := 0 }
        answer := { s.answer with slot := some d } }) := by
  obtain ⟨powered, quiet⟩ := ready
  rw [exec_scriptStepEnd powered script begun elapsed,
    runScript_restarts (fuel := 17) script mark again goesOn (by rw [heard]; rfl) first begun
      (repeatPlays_forever goesOn), heard]
  exact congrArg _ (finish_quiet _ quiet)

/-- R112, R113: at the limit the slot is EXPIRED, and the voice that has stopped plays no more. -/
theorem exec_scriptStepEnd_expired (expired : d.phase = .expired)
    (heard : sendCycle (s.engine.voice v).starter sc s =
      { s with
        engine := s.engine.setVoice v (s.engine.voice v).idled
        answer := { s.answer with slot := some d }
        inbox := s.inbox ++ if v = .ringer then [.ringerFree] else [] }) :
    exec (.scriptStepEnd v) s = .next (followDial
      { s with
        engine := s.engine.setVoice v (s.engine.voice v).idled
        answer := { s.answer with slot := some d } }) := by
  obtain ⟨powered, quiet⟩ := ready
  rw [exec_scriptStepEnd powered script begun elapsed, runScript_mark script mark goesOn, heard,
    runScript_idle (by rw [voice_setVoice_same]; rfl), quiet]
  cases v with
  | earpiece => exact congrArg _ (finish_quiet _ rfl)
  | ringer =>
    have still := fun t : State => auRingerFree_still (s := t) (c := d)
    have freed := finish_single
      { s with
        engine := s.engine.setVoice .ringer (s.engine.voice .ringer).idled
        answer := { s.answer with slot := some d }
        inbox := [.ringerFree] } rfl
    simp only [takeEvent] at freed
    rw [still _ rfl (by rw [expired]; nofun)] at freed
    exact congrArg _ ((freed rfl).trans (by rw [← quiet]))

end Own


end Sys2Proof.Machine
end

section
/-! The statements about starts, stops and script steps. -/

open Sys2Proof Sys2Proof.Machine

/-- Settles O35: START by its two refusals, the stops by the script's starter. -/
theorem startIsTakenByRank : Obligations.StartIsTakenByRank := by
  refine ⟨?_, ?_⟩
  · intro a sc s c barred outranks
    have refused : startBarred sc s = true ∨ outranked sc c = true ↔ barred ∨ outranks :=
      or_congr (startBarred_iff s sc) (outranked_iff sc c)
    exact ⟨fun h => start_refused (refused.mpr h), fun h => start_taken fun r => h (refused.mp r)⟩
  · intro a v s c
    have started := startedBy_iff a c
    refine ⟨fun h => ⟨stopNow_started (started.mpr h), stopAtCycle_started (started.mpr h)⟩,
      fun h => ?_⟩
    have other : startedBy a c = false := by simpa using mt started.mp h
    exact ⟨stopNow_ignored other, stopAtCycle_ignored other⟩

/-- Settles O36: the next step; and behind a MARK the repeat, the end, the count of cycles, and the bell displaced. -/
theorem scriptStepEndBeginsTheNextStep : Obligations.ScriptStepEndBeginsTheNextStep := by
  refine ⟨?_, ?_, ?_, ?_⟩
  · intro v sc s ready c put ended script begun elapsed
    obtain ⟨powered, quiet⟩ := ready
    rw [exec_scriptStepEnd powered script begun elapsed]
    have ends : endScript v s = ended := by
      rw [endScript_eq script, quiet, List.nil_append]
      rfl
    refine ⟨fun p n step => ?_, fun n step => ?_, fun p k n mark again first goesOn unheeded => ?_,
      fun mark stop => ?_⟩
    · rw [runScript_sound script step, beginSound_eq begun]
      exact congrArg _ (finish_quiet _ quiet)
    · rw [runScript_quiet script step, beginQuiet_eq begun]
      exact congrArg _ (finish_quiet _ quiet)
    · have still : sendCycle c.starter sc s = s := sendCycle_unheeded s unheeded
      have cycle : (sendCycle c.starter sc s).engine.voice v = c := by rw [still]
      have restarts := fun plays => runScript_restarts (fuel := 17) (plays := plays) script mark again
        goesOn cycle first begun
      have last := runScript_ends (fuel := 18) script mark again goesOn cycle
      rw [still] at last
      simp only [c, still] at restarts
      refine ⟨fun forever => ?_, fun pos more => ?_, fun pos done => ?_⟩
      · subst forever
        rw [restarts c.plays (repeatPlays_forever goesOn)]
        exact congrArg _ (finish_quiet _ quiet)
      · rw [restarts _ (repeatPlays_more goesOn pos more)]
        exact congrArg _ (finish_quiet _ quiet)
      · rw [last (repeatPlays_last pos done), ends]
    · rw [runScript_mark_stops script mark stop, ends]
  · intro sc call p n s ready c slot ringing bell script starter begun elapsed goesOn mark again first
    have heard : sendCycle c.starter sc s = countCycle call .ringer s := by
      rw [starter]
      exact auCycle_ringer slot ringing bell
    refine ⟨fun more => ?_, fun limit => ?_⟩
    · exact exec_scriptStepEnd_counted (v := .ringer) ready script begun elapsed goesOn mark again first
        (heard.trans (countCycle_more more _))
    · exact exec_scriptStepEnd_expired (v := .ringer) ready script begun elapsed goesOn mark rfl
        (heard.trans (countCycle_limit limit (startedBy_of script starter)))
  · intro call s ready c slot again held ringing script starter begun elapsed goesOn index
    have heard : sendCycle c.starter .urgentCall s = countMark call s := by
      rw [starter]
      exact auCycle_urgentCall held ringing
    have mark : Script.urgentCall.steps[c.index + 1]? = some .mark := by rw [index]; rfl
    have repeats : Script.urgentCall.steps[c.index + 1 + 1]? = some (.again 0) := by rw [index]; rfl
    have counted := fun d => exec_scriptStepEnd_counted (v := .earpiece) (d := d) ready script begun
      elapsed goesOn mark repeats rfl
    refine ⟨fun few => ?_, fun full more => ?_, fun full limit => ?_⟩
    · exact counted _ (heard.trans (if_pos (by omega)))
    · exact counted _ (heard.trans ((if_neg (by omega)).trans
        (countCycle_more (c := { call with marks := 0 }) more _)))
    · exact exec_scriptStepEnd_expired (v := .earpiece) ready script begun elapsed goesOn mark rfl
        (heard.trans ((if_neg (by omega)).trans
          (countCycle_limit (c := { call with marks := 0 }) limit (startedBy_of script starter))))
  · intro sc call a p k n s ready c slot ringing onHook farm on bell script starter other begun
      elapsed goesOn mark again first pos done
    obtain ⟨powered, quiet⟩ := ready
    have still : sendCycle c.starter sc s = s :=
      sendCycle_unheeded s (.inl (by rw [starter]; simpa using other))
    have ends : runScript (19 + 1) .ringer (c.index + 1) s = endScript .ringer s :=
      (runScript_ends (v := .ringer) (fuel := 18) script mark again goesOn
        (congrArg (·.engine.voice .ringer) still) (repeatPlays_last pos done)).trans
          (congrArg (endScript .ringer) still)
    have ended := ends.trans (endScript_eq (v := .ringer) script)
    have noticed : finishNotice c sc = [.finish a sc] := by rw [finishNotice, starter]
    have rings := finish_bellDisplaced (a := a) (sc := sc)
      (s := { s with
        engine := s.engine.setVoice .ringer c.idled
        inbox := s.inbox ++ finishNotice c sc ++ [.ringerFree] })
      slot ringing onHook farm on rfl bell (by simp [quiet, noticed])
    refine (exec_scriptStepEnd (v := .ringer) powered script begun elapsed).trans
      (congrArg _ ((congrArg finish ended).trans (rings.trans (congrArg followDial ?_))))
    rw [quiet]
    simp only [CadenceVoice.loaded, ringerScript_voice]
    rfl

end

section
/-! The Line View: the events and the tones of a change of its record, and the words it hears. -/

namespace Sys2Proof.Machine

variable (s : State)

/-! ## The events that a change of the view raises -/

/-- From `s` to `t` no event is raised but the lost events of scripts. -/
def OnlyLost (s t : State) : Prop :=
  ∃ tones, (∀ e ∈ tones, ∃ a sc, e = Event.lost a sc) ∧ t.inbox = s.inbox ++ tones

theorem onlyLost_of_eq {s t : State} (h : t.inbox = s.inbox) : OnlyLost s t :=
  ⟨[], by simp, by simpa using h⟩

theorem OnlyLost.trans {s t u : State} (h₁ : OnlyLost s t) (h₂ : OnlyLost t u) : OnlyLost s u := by
  obtain ⟨x, lost₁, eq₁⟩ := h₁
  obtain ⟨y, lost₂, eq₂⟩ := h₂
  refine ⟨x ++ y, fun e he => ?_, by rw [eq₂, eq₁, List.append_assoc]⟩
  exact (List.mem_append.mp he).elim (lost₁ e) (lost₂ e)

theorem onlyLost_start (a : Agent) (sc : Script) : OnlyLost s (start a sc s) := by
  by_cases refused : startBarred sc s = true ∨ outranked sc (s.engine.voice sc.voice) = true
  · rw [start_refused refused]
    exact ⟨[.lost a sc], by simp, rfl⟩
  · rw [start_taken refused]
    refine ⟨_, fun e he => ?_, rfl⟩
    unfold replacedNotice at he
    split at he
    · split at he
      · cases he
      · exact ⟨_, _, List.mem_singleton.mp he⟩
    · cases he

theorem stopNow_earpiece_inbox (a : Agent) : (stopNow a .earpiece s).inbox = s.inbox := by
  unfold stopNow
  simp only
  split <;> rfl

theorem onlyLost_refreshOutputs : OnlyLost s (refreshOutputs s) := by
  unfold refreshOutputs refreshTrunkConnect refreshPrivacy privacyTone
  split
  · exact onlyLost_start { s with out.privacy := privacyTerm s } _ _
  · split
    · exact onlyLost_of_eq (stopNow_earpiece_inbox { s with out.privacy := privacyTerm s } _)
    · exact onlyLost_of_eq rfl

/-- R99: the events of a view that passes to held by others. -/
def heldNotices (s t : State) : List Event :=
  if heldByOthers s = false ∧ heldByOthers t = true then
    [.heldByOthers .answerUnit t.view.record.parties, .heldByOthers .requestUnit t.view.record.parties]
  else []

/-- From `s` to `t` the events are those of R99, and lost events of scripts. -/
def NotesHeld (s t : State) : Prop :=
  ∃ tones, (∀ e ∈ tones, ∃ a sc, e = Event.lost a sc) ∧ t.inbox = s.inbox ++ heldNotices s t ++ tones

theorem heldByOthers_congr {s t : State} (settings : t.settings = s.settings)
    (record : t.view.record = s.view.record) : heldByOthers t = heldByOthers s := by
  simp only [heldByOthers, isInvolved, ownCode, settings, record]

theorem heldNotices_congr {s s' t t' : State} (before : heldByOthers s' = heldByOthers s)
    (after : heldByOthers t' = heldByOthers t) (record : t'.view.record = t.view.record) :
    heldNotices s' t' = heldNotices s t := by
  simp only [heldNotices, before, after, record]

theorem heldNotices_self {s t : State} (h : heldByOthers t = heldByOthers s) :
    heldNotices s t = [] := by
  rw [heldNotices, h]
  exact if_neg fun ⟨no, yes⟩ => by simp [no] at yes

/-- A change of the record that other changes follow, none of them of the record. -/
theorem NotesHeld.then {s t u : State} (h : NotesHeld s t) (next : OnlyLost t u)
    (settings : u.settings = t.settings) (record : u.view.record = t.view.record) : NotesHeld s u := by
  obtain ⟨x, lost₁, eq₁⟩ := h
  obtain ⟨y, lost₂, eq₂⟩ := next
  refine ⟨x ++ y, fun e he => (List.mem_append.mp he).elim (lost₁ e) (lost₂ e), ?_⟩
  rw [eq₂, eq₁, heldNotices_congr rfl (heldByOthers_congr settings record) record]
  simp only [List.append_assoc]

theorem notesHeld_of_onlyLost {s t : State} (h : OnlyLost s t) (settings : t.settings = s.settings)
    (record : t.view.record = s.view.record) : NotesHeld s t := by
  obtain ⟨tones, lost, eq⟩ := h
  exact ⟨tones, lost, by rw [heldNotices_self (heldByOthers_congr settings record), eq]; simp⟩

theorem noteHeld_inbox (before : Bool) :
    (noteHeld before s).inbox = s.inbox ++
      if before = false ∧ heldByOthers s = true then
        [.heldByOthers .answerUnit s.view.record.parties, .heldByOthers .requestUnit s.view.record.parties]
      else [] := by
  unfold noteHeld
  cases before <;> cases heldByOthers s <;> simp

theorem noteHeld_settings (before : Bool) : (noteHeld before s).settings = s.settings := by
  unfold noteHeld; split <;> rfl

theorem setView_settings (r : ViewRecord) : (setView r s).settings = s.settings := by
  rw [setView, refreshOutputs_settings, noteHeld_settings]

theorem notesHeld_setView (r : ViewRecord) : NotesHeld s (setView r s) := by
  have noted : NotesHeld s (noteHeld (heldByOthers s) { s with view.record := r }) := by
    refine ⟨[], by simp, ?_⟩
    rw [noteHeld_inbox, heldNotices_congr rfl
      (heldByOthers_congr (noteHeld_settings _ _) (by rw [noteHeld_view])) (by rw [noteHeld_view])]
    simp [heldNotices]
  exact noted.then (onlyLost_refreshOutputs _) (refreshOutputs_settings _)
    (by rw [setView, refreshOutputs_view])

/-! ## Line idle -/

theorem heldByOthers_free (h : s.view.record = .free) : heldByOthers s = false := by
  simp [heldByOthers, h]

/-- R100: PRIVACY released stops the lockout tone that the view started. -/
def lockoutStopped (s : State) : State :=
  if s.out.privacy && decide (s.engine.ear.script = some .lockout)
    then stopNow .lineView .earpiece s else s

theorem lockoutStopped_inbox : (lockoutStopped s).inbox = s.inbox := by
  unfold lockoutStopped
  split
  · exact stopNow_earpiece_inbox s _
  · rfl

/-- R100, R101: both outputs under a record that is not held by others. -/
theorem setView_notHeld {r : ViewRecord} (h : heldByOthers { s with view.record := r } = false) :
    setView r s =
      { lockoutStopped s with
        view := { s.view with record := r }
        out := { s.out with
          privacy := false, trunkConnect := trunkConnectTerm { s with view.record := r } } } := by
  have quiet : noteHeld (heldByOthers s) { s with view.record := r } =
      { s with view.record := r } := by
    rw [noteHeld, h]; rfl
  have privacy : privacyTerm { s with view.record := r } = false := by
    rw [privacyTerm, h, Bool.and_false]
  rw [setView, quiet, refreshOutputs, refreshTrunkConnect, refreshPrivacy, privacy]
  simp only [privacyTone, lockoutPlaying, Bool.false_and, Bool.not_false, Bool.and_true,
    Bool.false_eq_true, if_false, lockoutStopped]
  split
  · unfold stopNow startedBy
    simp only
    split <;> rfl
  · rfl

/-- R92, R95, R100, R101: a view that becomes FREE releases both outputs. -/
theorem freeView_eq :
    freeView s =
      { lockoutStopped s with
        view := { s.view with record := .free }
        out := { s.out with privacy := false, trunkConnect := false } } := by
  have trunk : trunkConnectTerm { s with view.record := .free } = false := Bool.and_false _
  rw [freeView, setView_notHeld s (heldByOthers_free _ rfl), trunk]

/-! ## RING, REFUSE and ANSWER -/

theorem classFound_first {rings pre post : List RingEntry} {e : RingEntry} {x y : Code}
    (shape : rings = pre ++ e :: post) (here : e.caller = x ∧ e.called = y)
    (others : ∀ r ∈ pre, ¬(r.caller = x ∧ r.called = y)) : classFound rings x y = e.cls := by
  have none_before : pre.find? (fun r => decide (r.caller = x ∧ r.called = y)) = none :=
    List.find?_eq_none.mpr fun r hr => by simpa using others r hr
  rw [classFound, shape, List.find?_append, none_before, Option.none_or,
    List.find?_cons_of_pos (by simpa using here)]

theorem classFound_none {rings : List RingEntry} {x y : Code}
    (others : ∀ r ∈ rings, ¬(r.caller = x ∧ r.called = y)) : classFound rings x y = .ordinary := by
  rw [classFound, List.find?_eq_none.mpr fun r hr => by simpa using others r hr]

/-- R90, R91: an ANSWER is taken, or leaves the view as it is. -/
theorem viewAnswer_cases (x y : Code) :
    viewAnswer x y s = s ∨ ∃ k, viewAnswer x y s = takeAnswer x y k s := by
  unfold viewAnswer
  simp only
  split
  · exact .inr ⟨_, rfl⟩
  · split_ifs
    · exact .inl rfl
    · exact .inl rfl
    · exact .inr ⟨_, rfl⟩
  · split_ifs
    · exact .inr ⟨_, rfl⟩
    · exact .inl rfl
    · exact .inl rfl
    · exact .inr ⟨_, rfl⟩

section Held

variable {s : State} {x y a b : Code} {k : CallClass}

theorem viewAnswer_free (h : s.view.record = .free) :
    viewAnswer x y s = takeAnswer x y (classFound s.view.rings x y) s := by
  simp only [viewAnswer, h]

theorem viewAnswer_same (h : s.view.record = .held a b k) (same : a = x ∧ b = y) :
    viewAnswer x y s = s := by
  simp only [viewAnswer, h, if_pos same]

/-- R90: a party of another call keeps its own. -/
theorem viewAnswer_party (h : s.view.record = .held a b k) (party : isParty s = true)
    (other : ¬(ownCode s = some x ∨ ownCode s = some y)) : viewAnswer x y s = s := by
  have among : ownAmong x y s = false :=
    Bool.eq_false_iff.mpr fun h => other ((ownAmong_iff s x y).mp h)
  simp [viewAnswer, h, party, among]

theorem viewAnswer_held_otherwise (h : s.view.record = .held a b k) (new : ¬(a = x ∧ b = y))
    (admits : isParty s = false ∨ ownCode s = some x ∨ ownCode s = some y) :
    viewAnswer x y s = takeAnswer x y (classFound s.view.rings x y) s := by
  have notKept : ¬(isParty s && !ownAmong x y s) = true := by
    obtain outside | own := admits
    · simp [outside]
    · simp [(ownAmong_iff s x y).mpr own]
  simp only [viewAnswer, h, if_neg new, if_neg notKept]

end Held

theorem notesHeld_takeAnswer (x y : Code) (k : CallClass) : NotesHeld s (takeAnswer x y k s) := by
  obtain ⟨tones, lost, eq⟩ := notesHeld_setView { s with view.idle := 0 } (.held x y k)
  exact ⟨tones, lost, eq⟩

/-! ## CLEAR -/

@[simp] theorem freeView_view : (freeView s).view = { s.view with record := .free } :=
  setView_view s _

theorem settlePending_none (h : s.view.pendingClear = none) (q : Code) : settlePending q s = s := by
  simp [settlePending, h]

theorem settlePending_other {p : PendingClear} (h : s.view.pendingClear = some p) {q : Code}
    (other : q ≠ p.dst) : settlePending q s = s := by
  simp [settlePending, h, other.symm]

theorem settlePending_frees {p : PendingClear} (h : s.view.pendingClear = some p)
    (parties : s.view.record.parties = some (p.a, p.b)) :
    settlePending p.dst s = freeView { s with view.pendingClear := none } := by
  simp [settlePending, h, PendingClear.names, parties]

theorem settlePending_keeps {p : PendingClear} (h : s.view.pendingClear = some p)
    (parties : s.view.record.parties ≠ some (p.a, p.b)) :
    settlePending p.dst s = { s with view.pendingClear := none } := by
  simp [settlePending, h, PendingClear.names, parties]

/-- R98: the pending clear is settled; its call, if the view still has it, is over. -/
theorem settlePending_view {p : PendingClear} (h : s.view.pendingClear = some p) :
    (settlePending p.dst s).view =
      { s.view with
        pendingClear := none
        record := if s.view.record.parties = some (p.a, p.b) then .free else s.view.record } := by
  split
  next parties => rw [settlePending_frees s h parties, freeView_view]
  next other => rw [settlePending_keeps s h other]

/-- R92: the view after a CLEAR, before a pending clear of this view is settled. -/
theorem clearedView_view (p q : Code) :
    (if clearFrees s.view.record p q then freeView s else s).view =
      { s.view with record := if clearFrees s.view.record p q then .free else s.view.record } := by
  split <;> simp

theorem forgetRing_view (w : LineWord) :
    (forgetRing w s).view =
      { s.view with rings := s.view.rings.filter (fun e => !e.between w.src w.dst) } := rfl

theorem viewWord_clear (own : Bool) (w : LineWord) (h : w.kind = .clear) :
    viewWord own w s = forgetRing w (viewClear w.src w.dst own s) := by
  simp only [viewWord, h]

theorem viewClear_unpending (p q : Code) {own : Bool} (h : own = false ∨ s.view.pendingClear = none) :
    viewClear p q own s = if clearFrees s.view.record p q then freeView s else s := by
  have pending : (if clearFrees s.view.record p q then freeView s else s).view.pendingClear =
      s.view.pendingClear := by rw [clearedView_view]
  cases own with
  | false => rfl
  | true => exact settlePending_none _ (pending.trans (h.resolve_left (by simp))) _

theorem clearFrees_held_iff (a b p q : Code) (c : CallClass) :
    clearFrees (.held a b c) p q = true ↔ p = a ∧ q = b ∨ p = b ∧ q = a := by
  simp only [clearFrees, ViewRecord.parties, Bool.or_eq_true, decide_eq_true_eq, Option.some.injEq,
    Prod.mk.injEq, eq_comm (a := p), eq_comm (a := q)]
  exact or_congr Iff.rfl and_comm

theorem clearFrees_broken_iff (k g p q : Code) (ab : Option (Code × Code)) :
    clearFrees (.broken k g ab) p q = true ↔
      (p = k ∨ p = g) ∨ ∃ a b, ab = some (a, b) ∧ (p = a ∧ q = b ∨ p = b ∧ q = a) := by
  simp only [clearFrees, ViewRecord.parties, Bool.or_eq_true, decide_eq_true_eq]
  refine or_congr Iff.rfl ?_
  cases ab with
  | none => simp
  | some r =>
    obtain ⟨a, b⟩ := r
    simp [eq_comm (a := p), eq_comm (a := q), and_comm (a := a = q)]

/-! ## BREAK -/

/-- R93: the view after a BREAK to a station, before the warning. -/
def brokenView (k g : Code) (s : State) : State :=
  setView (.broken k g s.view.record.parties)
    (if s.view.record = .free then { s with view.idle := 0 } else s)

theorem brokenView_view (k g : Code) :
    (brokenView k g s).view =
      { s.view with
        record := .broken k g s.view.record.parties
        idle := if s.view.record = .free then 0 else s.view.idle } := by
  rw [brokenView, setView_view]
  split <;> rfl

theorem warned_iff (k g : Code) (ab : Option (Code × Code)) :
    warned k g ab s = true ↔
      ownCode s ≠ none ∧ ownCode s ≠ some k ∧ (ownCode s = some g ∨
        ∃ a b, ab = some (a, b) ∧ (ownCode s = some a ∨ ownCode s = some b)) := by
  unfold warned
  cases ownCode s with
  | none => simp
  | some own =>
    cases ab with
    | none => simp
    | some r => simp [Prod.ext_iff]

theorem urgentCallPlaying_iff :
    urgentCallPlaying s = true ↔
      s.engine.ear.script = some .urgentCall ∧ s.engine.ear.starter ≠ some .lineView := by
  simp [urgentCallPlaying]

/-- R93: a station that is warned is involved, so the view is not held by others. -/
theorem heldByOthers_warned {k g : Code} {ab : Option (Code × Code)}
    (h : warned k g ab s = true) (record : s.view.record = .broken k g ab) :
    heldByOthers s = false := by
  obtain ⟨-, -, among⟩ := (warned_iff s k g ab).mp h
  have involved : isInvolved s = true := by
    obtain target | ⟨a, b, rfl, one | other⟩ := among
    · simp [isInvolved, record, target, ViewRecord.involves]
    · simp [isInvolved, record, one, ViewRecord.involves, ViewRecord.isParty, ViewRecord.parties]
    · simp [isInvolved, record, other, ViewRecord.involves, ViewRecord.isParty, ViewRecord.parties]
  rw [heldByOthers, involved, Bool.not_true, Bool.and_false]

theorem urgentCallPlaying_congr {s t : State} (h : t.engine = s.engine) :
    urgentCallPlaying t = urgentCallPlaying s := by
  rw [urgentCallPlaying, urgentCallPlaying, h]

theorem urgentCallPlaying_lockoutStopped :
    urgentCallPlaying (lockoutStopped s) = urgentCallPlaying s := by
  unfold lockoutStopped
  split
  next h =>
    have lockout : s.engine.ear.script = some .lockout := by simpa using (Bool.and_eq_true_iff.mp h).2
    unfold stopNow
    simp only
    split
    · simp [urgentCallPlaying, lockout, noteIdle, setVoice, Engine.setVoice, CadenceVoice.idled]
    · rfl
  · rfl

/-- R93: whether URGENT-CALL of another block plays is the same before the view's change. -/
theorem urgentCallPlaying_brokenView {k g : Code}
    (h : warned k g s.view.record.parties s = true) :
    urgentCallPlaying (brokenView k g s) = urgentCallPlaying s := by
  have base : ∀ u : State, u.settings = s.settings → u.engine = s.engine →
      urgentCallPlaying (setView (.broken k g s.view.record.parties) u) = urgentCallPlaying s := by
    intro u settings engine
    have warned_u : warned k g s.view.record.parties
        { u with view.record := .broken k g s.view.record.parties } = true := by
      rw [← h]; simp only [warned, ownCode, settings]
    rw [setView_notHeld u (heldByOthers_warned _ warned_u rfl)]
    exact (urgentCallPlaying_lockoutStopped u).trans (urgentCallPlaying_congr engine)
  unfold brokenView
  split
  · exact base _ rfl rfl
  · exact base _ rfl rfl

/-- R93: the warning does not start over URGENT-CALL of another block. -/
theorem viewBreak_eq (k g : Code) :
    viewBreak k g s =
      if warned k g s.view.record.parties s && !urgentCallPlaying s
        then start .lineView .breakWarn (brokenView k g s) else brokenView k g s := by
  have unfolded : viewBreak k g s =
      if warned k g s.view.record.parties s && !urgentCallPlaying (brokenView k g s)
        then start .lineView .breakWarn (brokenView k g s) else brokenView k g s := by
    simp only [viewBreak, brokenView, isFree_iff]
  rw [unfolded]
  by_cases h : warned k g s.view.record.parties s = true
  · rw [urgentCallPlaying_brokenView s h]
  · simp only [h, Bool.false_and]

theorem viewBreak_view (k g : Code) : (viewBreak k g s).view = (brokenView k g s).view := by
  rw [viewBreak_eq]
  split
  · rw [start_view]
  · rfl

theorem notesHeld_brokenView (k g : Code) : NotesHeld s (brokenView k g s) := by
  unfold brokenView
  split
  · obtain ⟨tones, lost, eq⟩ := notesHeld_setView { s with view.idle := 0 }
      (.broken k g s.view.record.parties)
    exact ⟨tones, lost, eq⟩
  · exact notesHeld_setView s _

theorem notesHeld_viewBreak (k g : Code) : NotesHeld s (viewBreak k g s) := by
  rw [viewBreak_eq]
  split
  · exact (notesHeld_brokenView s k g).then (onlyLost_start _ _ _) (start_settings ..) (by rw [start_view])
  · exact notesHeld_brokenView s k g

theorem viewWord_brk (own : Bool) {g : Code} (station : g ≠ 0) (k : Code) (arg : Option Code) :
    viewWord own ⟨.brk, g, k, arg⟩ s = viewBreak k g s := if_neg station

theorem notesHeld_viewAnswer (x y : Code) : NotesHeld s (viewAnswer x y s) := by
  obtain same | ⟨k, taken⟩ := viewAnswer_cases s x y
  · rw [same]; exact notesHeld_of_onlyLost (onlyLost_of_eq rfl) rfl rfl
  · rw [taken]; exact notesHeld_takeAnswer s x y k

/-- R99: a view that passes to held by others by an ANSWER has the ANSWER's parties. -/
theorem parties_of_answer_passed {x y : Code} (before : heldByOthers s = false)
    (after : heldByOthers (viewAnswer x y s) = true) :
    (viewAnswer x y s).view.record.parties = some (x, y) := by
  obtain same | ⟨k, taken⟩ := viewAnswer_cases s x y
  · rw [same, before] at after; cases after
  · rw [taken, takeAnswer_view]; rfl

/-- `NotesHeld`, with its two cases apart. -/
theorem NotesHeld.split {s t : State} (h : NotesHeld s t) :
    ∃ tones, (∀ e ∈ tones, ∃ a sc, e = Event.lost a sc) ∧
      (heldByOthers s = false ∧ heldByOthers t = true → t.inbox = s.inbox ++
        [.heldByOthers .answerUnit t.view.record.parties,
          .heldByOthers .requestUnit t.view.record.parties] ++ tones) ∧
      (¬(heldByOthers s = false ∧ heldByOthers t = true) → t.inbox = s.inbox ++ tones) := by
  obtain ⟨tones, lost, eq⟩ := h
  refine ⟨tones, lost, fun passed => ?_, fun not_passed => ?_⟩
  · rw [eq, heldNotices, if_pos passed]
  · rw [eq, heldNotices, if_neg not_passed, List.append_nil]

/-! ## The view's own CLEAR -/

section OwnClear

variable {s : State} {own a b : Code} (code : ownCode s = some own)
include code

theorem viewOwnClear_other {other : Code} (parties : s.view.record.parties = some (a, b))
    (h : s.view.record.otherParty own = some other) :
    viewOwnClear s =
      let t := queue .lineView .clear other none s
      { t with view := { t.view with pendingClear := some ⟨other, a, b⟩ } } := by
  simp only [viewOwnClear, code, parties, h]

theorem viewOwnClear_outsider (h : isParty s = false) : viewOwnClear s = s := by
  unfold viewOwnClear
  rw [code]
  cases parties : s.view.record.parties with
  | none => rfl
  | some r =>
    have outside : s.view.record.otherParty own = none := by
      simp only [isParty, code, ViewRecord.isParty, parties, decide_eq_false_iff_not, not_or] at h
      simp [ViewRecord.otherParty, parties, h.1, h.2]
    simp [outside]

end OwnClear

end Sys2Proof.Machine
end
section
open Sys2Proof Sys2Proof.Machine

/-- Settles O37: `freeView_eq` at the 50th unloaded block. -/
theorem lineIdleFreesTheView : Obligations.LineIdleFreesTheView := by
  rintro s ⟨powered, empty⟩ idle busy t
  have due : lineIdleDue s = true := by
    rw [lineIdleDue, idle, Bool.eq_false_iff.mpr (mt (isFree_iff _).mp busy)]; rfl
  have inbox : (freeView s).inbox = [] := by
    rw [freeView_eq]
    exact (lockoutStopped_inbox s).trans empty
  have settled : settleLineIdle s = followDial (freeView s) :=
    (if_pos due).trans (finish_quiet _ inbox)
  refine (act_of_powered powered settleLineIdle).trans ?_
  rw [settled, freeView_eq]
  rfl

/-- Settles O38: the ring memory by definition; an ANSWER by the rows of R90; the events by
`notesHeld_viewAnswer`. -/
theorem answerReachesAFreeOrHeldView : Obligations.AnswerReachesAFreeOrHeldView := by
  refine ⟨?_, ?_, ?_, fun ab s => ⟨rfl, rfl⟩⟩
  · intro own x y arg s k
    refine ⟨rfl, ?_⟩
    have word : viewWord own ⟨.refuse, x, y, arg⟩ s = forgetRing ⟨.refuse, x, y, arg⟩ s := rfl
    simp [word, forgetRing, RingEntry.between, or_comm]
  · intro own x y s found t taken kept
    have view_t : t.view = { (viewAnswer x y s).view with
        rings := s.view.rings.filter (fun e => !e.between x y) } := viewWord_answer_view s own x y none
    have kept_of (same : viewAnswer x y s = s) : kept := by simp [kept, view_t, same]
    have taken_of (h : viewAnswer x y s = takeAnswer x y found s) : taken := by
      simp [taken, view_t, h]
    refine ⟨fun pre e post shape caller called others => classFound_first shape ⟨caller, called⟩ others,
      classFound_none, fun free => taken_of (viewAnswer_free free), fun a b k held => ⟨?_, ?_, ?_⟩,
      fun _ => ?_⟩
    · exact fun same => kept_of (viewAnswer_same held same)
    · exact fun _ party notX notY => kept_of (viewAnswer_party held party (not_or.mpr ⟨notX, notY⟩))
    · exact fun new admits => taken_of (viewAnswer_held_otherwise held new admits)
    · obtain same | ⟨k, answered⟩ := viewAnswer_cases s x y
      · simp [view_t, same]
      · simp [view_t, answered]
  · intro own x y s t passed
    obtain ⟨tones, lost, yes, no⟩ := (notesHeld_viewAnswer s x y).split
    have after : heldByOthers t = heldByOthers (viewAnswer x y s) := rfl
    refine ⟨tones, lost, fun now => ?_, no⟩
    have := yes now
    rw [parties_of_answer_passed s now.1 now.2] at this
    exact this

/-- Settles O40: the record after a CLEAR by `clearFrees`, row by row. -/
theorem clearIsAppliedToTheView : Obligations.ClearIsAppliedToTheView := by
  intro own p q s unpending t kept freed between
  have view_t : t.view =
      { s.view with
        record := if clearFrees s.view.record p q then .free else s.view.record
        rings := s.view.rings.filter (fun e => !e.between q p) } := by
    rw [show t = forgetRing _ (viewClear p q own s) from viewWord_clear s own _ rfl, forgetRing_view,
      viewClear_unpending s p q unpending, clearedView_view]
    simp only [RingEntry.between_comm _ p q]
  have freed_of (h : clearFrees s.view.record p q = true) : freed := by simp [freed, view_t, h]
  have kept_of (h : ¬clearFrees s.view.record p q = true) : kept := by simp [kept, view_t, h]
  refine ⟨fun free => ?_, fun a b c held => ⟨?_, ?_⟩, fun k g ab broken => ⟨?_, ?_, ?_⟩, ?_⟩
  · simp [freed, view_t, free]
  · exact fun h => freed_of (held ▸ (clearFrees_held_iff a b p q c).mpr h)
  · exact fun h => kept_of (held ▸ mt (clearFrees_held_iff a b p q c).mp h)
  · exact fun h => freed_of (broken ▸ (clearFrees_broken_iff k g p q ab).mpr (.inl h))
  · exact fun a b parties h =>
      freed_of (broken ▸ (clearFrees_broken_iff k g p q ab).mpr (.inr ⟨a, b, parties, h⟩))
  · intro notK notG notParties
    refine kept_of (broken ▸ mt (clearFrees_broken_iff k g p q ab).mp ?_)
    rintro (named | ⟨a, b, parties, h⟩)
    · exact named.elim notK notG
    · exact notParties a b parties h
  · simp [view_t]

/-- Settles O41: `viewBreak_eq`, `brokenView_view` and `notesHeld_viewBreak`. -/
theorem breakReachesTheView : Obligations.BreakReachesTheView := by
  intro own k g s t
  refine ⟨fun station => ?_, ?_, ?_⟩
  · have taken : t = viewBreak k g s := viewWord_brk s own station k none
    have view_t : t.view = _ := taken ▸ (viewBreak_view s k g).trans (brokenView_view s k g)
    have playing := urgentCallPlaying_iff s
    refine ⟨fun free => ?_, fun a b c held => ?_, fun k' g' ab broken => ?_, ?_, ?_, ?_⟩
    · simp [view_t, free, ViewRecord.parties]
    · simp [view_t, held, ViewRecord.parties]
    · simp [view_t, broken, ViewRecord.parties]
    · rw [view_t]
    · rw [view_t]
    · intro ab broken isWarned calling
      have warn : warned k g ab s = true ↔ isWarned := warned_iff s k g ab
      refine ⟨fun yes still => ?_, fun no => ?_⟩
      · rw [taken, viewBreak_eq, if_pos]
        · rfl
        · rw [warn.mpr yes, Bool.eq_false_iff.mpr (mt playing.mp still)]; rfl
      · rw [taken, viewBreak_eq, if_neg]
        · rfl
        · rintro both
          obtain ⟨yes, still⟩ := Bool.and_eq_true_iff.mp both
          exact no.elim (fun n => n (warn.mp yes)) fun c => by simp [playing.mpr c] at still
  · intro ab passed
    have noted : NotesHeld s t ∧ t.view.record.parties = ab := by
      by_cases station : g = 0
      · subst station
        cases own with
        | true => exact ⟨notesHeld_of_onlyLost (onlyLost_of_eq rfl) rfl rfl, rfl⟩
        | false =>
          have view_t : t.view = s.view := start_view ..
          exact ⟨notesHeld_of_onlyLost (onlyLost_start s .lineView .alert) (start_settings ..)
            (by rw [view_t]), by rw [view_t]⟩
      · have taken : t = viewBreak k g s := viewWord_brk s own station k none
        rw [taken, viewBreak_view, brokenView_view]
        exact ⟨notesHeld_viewBreak s k g, rfl⟩
    obtain ⟨tones, lost, yes, no⟩ := noted.1.split
    rw [noted.2] at yes
    exact ⟨tones, lost, yes, no⟩
  · rintro rfl
    rfl

/-- Settles O42: `viewOwnClear_other`, `viewOwnClear_outsider`, and the cases of `settlePending`. -/
theorem ownClearIsPendingUntilSettled : Obligations.OwnClearIsPendingUntilSettled := by
  refine ⟨?_, ?_⟩
  · intro own a b s code clear down
    have down_record : down.view.record = s.view.record := by rw [refreshOutputs_view]
    have down_code : ownCode down = some own := by rw [← code]; simp [down, ownCode]
    refine ⟨fun parties isA => ?_, fun parties isB notA => ?_, fun outside => ?_⟩
    · have other : s.view.record.otherParty own = some b := by
        simp [ViewRecord.otherParty, parties, isA]
      exact ⟨viewOwnClear_other code parties other,
        viewOwnClear_other down_code (down_record ▸ parties) (down_record ▸ other)⟩
    · have other : s.view.record.otherParty own = some a := by
        rw [ViewRecord.otherParty, parties]
        exact (if_neg notA).trans (if_pos isB)
      exact ⟨viewOwnClear_other code parties other,
        viewOwnClear_other down_code (down_record ▸ parties) (down_record ▸ other)⟩
    · have down_party : isParty down = isParty s := by
        rw [isParty, isParty, down_code, code, down_record]
      exact ⟨viewOwnClear_outsider code outside,
        viewOwnClear_outsider down_code (down_party.trans outside)⟩
  · intro p w s pending kind
    have notice : viewNotice w s = settlePending w.dst s := if_pos kind
    let cleared := if clearFrees s.view.record w.src w.dst then freeView s else s
    have cleared_view : cleared.view = _ := clearedView_view s w.src w.dst
    have cleared_pending : cleared.view.pendingClear = some p := by rw [cleared_view, pending]
    have own : viewWord true w s = forgetRing w (settlePending w.dst cleared) :=
      viewWord_clear s true w kind
    have heard : viewWord false w s = forgetRing w cleared := viewWord_clear s false w kind
    refine ⟨fun names => ?_, fun names => ?_⟩
    · rw [notice, own, heard, forgetRing_view, forgetRing_view, names, settlePending_view s pending,
        settlePending_view cleared cleared_pending, cleared_view]
      refine ⟨rfl, fun call => if_pos call, fun other => ?_, rfl, fun call => ?_, fun other => ?_,
        rfl, rfl, rfl⟩
      · exact settlePending_keeps s pending other
      · cases clearFrees s.view.record w.src w.dst <;> simp [call]
      · refine if_neg ?_
        cases clearFrees s.view.record w.src w.dst with
        | false => exact other
        | true => exact nofun
    · rw [notice, own, heard, settlePending_other s pending names,
        settlePending_other cleared cleared_pending names]
      exact ⟨rfl, rfl⟩

end

section
/-! The Answer Unit: the slot's expiries, the polls, the rings and the events that reach the slot. -/

namespace Sys2Proof.Machine

section Slot

variable {s : State} {c : Call} (slot : s.answer.slot = some c)
include slot

/-! ## The slot's expiries -/

theorem completionHoldDue_of (timer : c.timer = 0) (phase : c.phase = .answered) :
    completionHoldDue s = true := by
  simp [completionHoldDue, slotTimeOver, slotAnswered, slot, timer, phase]

theorem lingerDue_of (timer : c.timer = 0) (phase : c.phase = .delivered) : lingerDue s = true := by
  simp [lingerDue, slotTimeOver, slotDelivered, slot, timer, phase]

theorem pollLossDue_of (timer : c.timer = 0) (answered : c.phase ≠ .answered)
    (delivered : c.phase ≠ .delivered) : pollLossDue s = true := by
  simp [pollLossDue, slotTimeOver, slotAnswered, slotDelivered, slot, timer, answered, delivered]

theorem onCall_eq (f : Call → State → State) : onCall f s = f c s := by
  simp only [onCall, slot]

/-! ## POLL -/

/-- R111: a POLL of the slot's own caller. -/
theorem auPoll_of_caller : auPoll c.caller s = pollMatching c c.caller s := by
  simp only [auPoll, slot, if_true]

/-- R107: a RING of the slot's own caller is taken as a POLL. -/
theorem auRing_of_caller (k : CallClass) : auRing c.caller k s = auPoll c.caller s :=
  if_pos (by simp [slotHolds, slot])

/-! ## CLEAR and held by others -/

/-- R119: a CLEAR from the slot's own caller. -/
theorem auClear_of_caller :
    auClear c.caller s = withdraw .answerUnit c.caller (clearSounding c (setSlot none s)) := by
  simp only [auClear, slot, if_true]

/-- R119: a CLEAR from any other station leaves the slot. -/
theorem auClear_of_other {x : Code} (other : x ≠ c.caller) : auClear x s = s := by
  simp only [auClear, slot, if_neg other.symm]

theorem auHeldByOthers_kept (h : c.preemptible = false) : auHeldByOthers s = s := by
  simp [auHeldByOthers, slot, h]

theorem auHeldByOthers_refuses (h : c.preemptible = true) :
    auHeldByOthers s =
      queueRefuse .answerUnit .locked c.caller (stopAtCycle .answerUnit .ringer (setSlot none s)) := by
  simp only [auHeldByOthers, slot, h, if_true]

theorem auFlash_kept (h : c.phase ≠ .ringing .earpiece) : auFlash s = s := by
  simp only [auFlash, slot, if_neg h]

end Slot

theorem Call.preemptible_iff (c : Call) :
    c.preemptible = true ↔ (∃ v, c.phase = .ringing v) ∧ c.cls ≠ .urgent := by
  unfold Call.preemptible
  cases c.phase <;> simp

variable {s : State} {x : Code}

/-- R111: a POLL that meets no call of its station. -/
theorem auPoll_of_other (h : s.answer.slot.map (·.caller) ≠ some x) :
    auPoll x s = queue .answerUnit .refuse x (some 1) s := by
  unfold auPoll
  split
  next c slot => exact if_neg fun same => h (by rw [slot, ← same]; rfl)
  next => rfl

/-! ## RING -/

/-- R107: a RING of a caller that the slot does not hold meets the record. -/
theorem auRing_of_other (h : s.answer.slot.map (·.caller) ≠ some x) (k : CallClass) :
    auRing x k s = ringAgainstRecord x k s := by
  refine if_neg ?_
  unfold slotHolds
  split
  next c slot => exact fun same => h (by rw [slot, ← of_decide_eq_true same]; rfl)
  next => exact Bool.false_ne_true

theorem requestClear_iff :
    requestClear s = true ↔ ¬(s.request.record ≠ none ∨ s.request.pendingBreak ≠ none) := by
  simp [requestClear, recordNone]

section Glare

variable {r : Request} (record : s.request.record = some r) (called : r.called = x) (k : CallClass)
include record called

/-- R107, R144: the lower code keeps its request. -/
theorem ringAgainstRecord_lower (underWay : r.state.underWay = true) (lower : lowerThan x s = true) :
    ringAgainstRecord x k s = queueRefuse .answerUnit .glare x s := by
  simp only [ringAgainstRecord, record, called, underWay, lower, if_true]

/-- R107, R144: the higher code drops its request and takes the RING. -/
theorem ringAgainstRecord_yields (underWay : r.state.underWay = true) (higher : lowerThan x s = false) :
    ringAgainstRecord x k s = ringPastGlare x k (dropRequest x s) := by
  simp [ringAgainstRecord, record, called, underWay, higher, yieldTo, recordNaming]

theorem ringAgainstRecord_over (notUnderWay : r.state.underWay = false) :
    ringAgainstRecord x k s = queueRefuse .answerUnit .busy x s := by
  simp [ringAgainstRecord, record, called, notUnderWay]

end Glare

theorem ringAgainstRecord_free (h : ∀ r, s.request.record = some r → r.called ≠ x) (k : CallClass) :
    ringAgainstRecord x k s = ringPastGlare x k s := by
  unfold ringAgainstRecord
  split
  next r record => exact if_neg (h r record)
  next => rfl

theorem dropRequest_slot : (dropRequest x s).answer.slot = s.answer.slot :=
  congrArg (·.slot) (voice_stopNow (withdraw .requestUnit x s) .requestUnit .earpiece .answer (by decide))

theorem RequestState.underWay_iff (st : RequestState) :
    st.underWay = true ↔ st = .requesting ∨ st = .waiting := by
  cases st <;> simp [RequestState.underWay]

/-- R109: a RING that no row refuses. -/
theorem ringRefusal_none {k : CallClass}
    (h : k = .urgent ∨ s.view.record = .free ∧ (s.answer.offHook = false ∨ requestClear s = true)) :
    ringRefusal k s = none := by
  unfold ringRefusal
  obtain urgent | ⟨free, idle⟩ := h
  · exact if_pos urgent
  · have outside : engaged s = false := by
      unfold engaged isInvolved
      rw [free]
      split <;> rfl
    have clear : (s.answer.offHook && !requestClear s) = false := by
      obtain onHook | clear := idle
      · rw [onHook, Bool.false_and]
      · rw [clear, Bool.not_true, Bool.and_false]
    simp [outside, heldByOthers_free s free, clear]

theorem ringRefusal_engaged {k : CallClass} (k_ne : k ≠ .urgent) (h : isInvolved s = true) :
    ringRefusal k s = some .busy := by
  simp [ringRefusal, engaged, k_ne, h]

theorem ringRefusal_held {k : CallClass} (k_ne : k ≠ .urgent) (h : heldByOthers s = true) :
    ringRefusal k s = some .locked := by
  have outside : isInvolved s = false := by
    have := (Bool.and_eq_true_iff.mp h).2
    simpa using this
  simp [ringRefusal, engaged, k_ne, h, outside]

theorem ringRefusal_calling {k : CallClass} (k_ne : k ≠ .urgent) (free : s.view.record = .free)
    (offHook : s.answer.offHook = true) (busy : requestClear s = false) :
    ringRefusal k s = some .busy := by
  have outside : engaged s = false := by
    unfold engaged isInvolved
    rw [free]
    split <;> rfl
  simp [ringRefusal, outside, k_ne, heldByOthers_free s free, offHook, busy]

section Empty

variable {k : CallClass} (empty : s.answer.slot = none)
include empty

theorem ringPastGlare_refused {why : Refuse} (h : ringRefusal k s = some why) :
    ringPastGlare x k s = queueRefuse .answerUnit why x s := by
  simp only [ringPastGlare, empty, ringToEmpty, h]

theorem ringPastGlare_trunkEnd (h : ringRefusal k s = none) (trunkEnd : isTrunkEnd s = true) :
    ringPastGlare x k s = trunkEndRing x k s := by
  simp only [ringPastGlare, empty, ringToEmpty, h, trunkEnd, if_true]

theorem ringPastGlare_farm (h : ringRefusal k s = none) (farm : isTrunkEnd s = false) :
    ringPastGlare x k s = takeRing x k s := by
  simp [ringPastGlare, empty, ringToEmpty, h, farm]

end Empty

theorem takeRing_bell (k : CallClass) (onHook : s.answer.offHook = false) :
    takeRing x k s = start .answerUnit (ringerScript k s)
      (setSlot (some (ringingCall .ringer x k)) (queue .answerUnit .hold x none s)) := by
  have script : ringerScript k (queue .answerUnit .hold x none s) = ringerScript k s := by
    simp only [ringerScript, ringCadence, queue_settings]
  simp only [takeRing, onHook, Bool.not_false, if_true, ringOnBell, script]

theorem takeRing_answers (k : CallClass) (offHook : s.answer.offHook = true)
    (outside : isInvolved s = false) (clear : requestClear s = true) :
    takeRing x k s = answerAtOnce x k (queue .answerUnit .hold x none s) := by
  simp [takeRing, offHook, outside, clear]

theorem takeRing_ear (k : CallClass) (offHook : s.answer.offHook = true)
    (busy : isInvolved s = true ∨ requestClear s = false) :
    takeRing x k s = ringInEar x k (queue .answerUnit .hold x none s) := by
  obtain involved | calling := busy
  · simp [takeRing, offHook, involved]
  · simp [takeRing, offHook, calling]

theorem trunkEndBusy_iff (k : CallClass) :
    trunkEndBusy x k s = true ↔ s.request.record ≠ none ∨
      k = .ordinary ∧ s.trunk.silence < 300 ∧ s.trunk.latched ≠ some x := by
  simp [trunkEndBusy, recordNone, trunkPresent, and_assoc, Option.isSome_iff_ne_none]

end Sys2Proof.Machine
end

section
open Sys2Proof Sys2Proof.Machine

/-- Settles O43: each expiry empties the slot by `letGo`, which raises no event. -/
theorem slotExpiriesEmptyTheSlot : Obligations.SlotExpiriesEmptyTheSlot := by
  rintro c s ⟨powered, inbox⟩ slot timer gone
  have letGo_eq : letGo c s = gone := rfl
  have expires {due take t} (isDue : due s = true) (taken : take s = t) :
      act (whenDueFinish due take) s = .next (finish t) := by
    rw [act_of_powered powered, whenDueFinish, if_pos isDue, taken]
  have quietly {due take t} (isDue : due s = true) (taken : take s = t) (quiet : t.inbox = []) :
      act (whenDueFinish due take) s = .next (followDial t) := by
    rw [expires isDue taken, finish_quiet _ quiet]
  have loss (answered : c.phase ≠ .answered) (delivered : c.phase ≠ .delivered) :=
    pollLossDue_of slot timer answered delivered
  have sounding : takePollLoss s = lossSounding c gone := onCall_eq slot _
  refine ⟨fun phase => ?_, fun phase => ?_, fun phase => ?_, fun phase => ?_, fun phase => ?_⟩
  · exact expires (completionHoldDue_of slot timer phase) (onCall_eq slot _)
  · exact quietly (lingerDue_of slot timer phase) (onCall_eq slot _) inbox
  · refine quietly (loss (by simp [phase]) (by simp [phase]))
      (sounding.trans (by simp only [lossSounding, phase])) ?_
    unfold stopAtCycle
    simp only
    split <;> exact inbox
  · exact quietly (loss (by simp [phase]) (by simp [phase]))
      (sounding.trans (by simp only [lossSounding, phase]))
      ((stopNow_earpiece_inbox gone _).trans inbox)
  · exact quietly (loss (by simp [phase]) (by simp [phase]))
      (sounding.trans (by simp only [lossSounding, phase])) inbox

/-- Settles O44: `pollMatching` in each state of the slot. -/
theorem pollIsAnsweredByTheTable : Obligations.PollIsAnsweredByTheTable := by
  intro x k s put
  refine ⟨fun c slot caller => ?_, auPoll_of_other⟩
  subst caller
  have answered := auPoll_of_caller slot
  refine ⟨auRing_of_caller slot k, fun v phase => ?_, fun phase => ?_, fun phase => ?_, fun phase => ?_⟩
  · rw [answered, pollMatching, phase]; rfl
  · rw [answered, pollMatching, phase]; rfl
  · rw [answered, pollMatching, phase]; rfl
  · refine ⟨_, rfl, ?_⟩
    rw [answered, pollMatching, phase]; rfl

/-- Settles O45: the record's tests, then those of the slot, the view and the hook, and the
trunk-end's own. -/
theorem ringIsTakenOrRefused : Obligations.RingIsTakenOrRefused := by
  refine ⟨?_, ?_⟩
  · intro x own k s other code refused free held into busy
    have ringing := auRing_of_other other k
    have lower : lowerThan x s = decide (own < x) := by simp only [lowerThan, code]
    refine ⟨fun r record called => ⟨fun underWay => ⟨fun less => ?_, fun notLess => ?_⟩,
      fun notRequesting notWaiting => ?_⟩, fun isFree => ⟨fun c slot => ⟨?_, ?_⟩, fun empty => ?_⟩⟩
    · exact ringing.trans (ringAgainstRecord_lower record called k
        ((RequestState.underWay_iff _).mpr underWay) (by simp [lower, less]))
    · have dropped_other : (dropRequest x s).answer.slot.map (·.caller) ≠ some x := by
        rw [dropRequest_slot]; exact other
      rw [ringing, ringAgainstRecord_yields record called k ((RequestState.underWay_iff _).mpr underWay)
        (by simpa [lower] using notLess), auRing_of_other dropped_other]
      rfl
    · exact ringing.trans (ringAgainstRecord_over record called k
        (Bool.eq_false_iff.mpr fun h =>
          ((RequestState.underWay_iff _).mp h).elim notRequesting notWaiting))
    · rintro ⟨rfl, isRinging, notUrgent⟩
      have preempts : CallClass.urgent = .urgent ∧ c.preemptible = true :=
        ⟨rfl, c.preemptible_iff.mpr ⟨isRinging, notUrgent⟩⟩
      rw [ringing, ringAgainstRecord_free isFree, ringPastGlare, slot]
      exact if_pos preempts
    · intro keeps
      have notPreempted : ¬(k = .urgent ∧ c.preemptible = true) := fun ⟨urgent, h⟩ =>
        keeps ⟨urgent, c.preemptible_iff.mp h⟩
      have met : auRing x k s = ringMeetsCall c x k s := by
        rw [ringing, ringAgainstRecord_free isFree, ringPastGlare, slot]
      exact met.trans (if_neg notPreempted)
    · have past : auRing x k s = ringPastGlare x k s := ringing.trans (ringAgainstRecord_free isFree k)
      have isClear : requestClear s = true ↔ ¬busy := requestClear_iff
      have notClear : requestClear s = false ↔ busy := by
        rw [← Bool.not_eq_true, isClear, not_not]
      have farm (h : own ≠ 15) : isTrunkEnd s = false := by simp [isTrunkEnd, code, h]
      refine ⟨?_, ?_, ?_, ?_, ?_, ?_, ?_⟩
      · exact fun notUrgent involved =>
          past.trans (ringPastGlare_refused empty (ringRefusal_engaged notUrgent involved))
      · exact fun notUrgent others =>
          past.trans (ringPastGlare_refused empty (ringRefusal_held notUrgent others))
      · exact fun notUrgent isFree offHook isBusy => past.trans (ringPastGlare_refused empty
          (ringRefusal_calling notUrgent isFree offHook (notClear.mpr isBusy)))
      · rintro rfl h
        refine past.trans (ringPastGlare_trunkEnd empty (ringRefusal_none ?_) (by simp [isTrunkEnd, code]))
        exact h.imp_right fun ⟨isFree, idle⟩ => ⟨isFree, idle.imp_right isClear.mpr⟩
      · intro notTrunkEnd h onHook
        rw [past, ringPastGlare_farm empty (ringRefusal_none (h.imp_right fun f => ⟨f, .inl onHook⟩))
          (farm notTrunkEnd), takeRing_bell k onHook]
        rfl
      · intro notTrunkEnd h offHook outside notBusy
        have clear := isClear.mpr notBusy
        rw [past, ringPastGlare_farm empty (ringRefusal_none (h.imp_right fun f => ⟨f, .inr clear⟩))
          (farm notTrunkEnd), takeRing_answers k offHook outside clear]
        rfl
      · rintro notTrunkEnd rfl offHook inCall
        rw [past, ringPastGlare_farm empty (ringRefusal_none (.inl rfl)) (farm notTrunkEnd),
          takeRing_ear _ offHook (inCall.imp_right notClear.mpr)]
        rfl
  · intro x k s refused t taken barred
    have busy := trunkEndBusy_iff (s := s) (x := x) k
    have admitted (record : s.request.record = none) (open' : ¬barred) : ¬trunkEndBusy x k s = true :=
      fun h => (busy.mp h).elim (fun no => no record) open'
    refine ⟨fun record => if_pos (busy.mpr (.inl record)), fun _ isBarred => if_pos (busy.mpr (.inr isBarred)),
      fun record notBarred urgent party => ?_, fun record notBarred otherwise => ?_⟩
    · rw [trunkEndRing, if_neg (admitted record notBarred)]
      exact if_pos ⟨urgent, party⟩
    · rw [trunkEndRing, if_neg (admitted record notBarred)]
      exact if_neg otherwise

/-- Settles O46: each event's equation, in each state of the slot. -/
theorem slotFollowsHookClearAndLine : Obligations.SlotFollowsHookClearAndLine := by
  refine ⟨?_, ?_⟩
  · intro c s slot slot' lifted
    have clears := auClear_of_caller slot
    refine ⟨fun phase => ?_, fun phase => ?_, fun phase => ?_, fun phase => ?_, fun phase => ?_,
      fun x other => auClear_of_other slot other⟩
    · have bellOnly : c.phase ≠ .ringing .earpiece := by simp [phase]
      refine ⟨?_, ?_, ?_, auFlash_kept slot bellOnly, fun notUrgent => ?_, fun urgent => ?_⟩
      · simp only [auOffHook, slot, phase]; rfl
      · rw [clears, clearSounding, phase]; rfl
      · simp only [auHangUp, slot, phase]; rfl
      · exact auHeldByOthers_refuses slot (c.preemptible_iff.mpr ⟨⟨_, phase⟩, notUrgent⟩)
      · exact auHeldByOthers_kept slot
          (Bool.eq_false_iff.mpr fun h => (c.preemptible_iff.mp h).2 urgent)
    · refine ⟨?_, ?_, ?_, fun urgent => ?_⟩
      · simp only [auFlash, slot, phase, if_true]; rfl
      · simp only [auHangUp, slot, phase]; rfl
      · rw [clears, clearSounding, phase]; rfl
      · exact auHeldByOthers_kept slot
          (Bool.eq_false_iff.mpr fun h => (c.preemptible_iff.mp h).2 urgent)
    all_goals
      have notRinging : c.preemptible = false := by rw [Call.preemptible, phase]
      have kept := auHeldByOthers_kept slot notRinging
      have flash : auFlash s = s := auFlash_kept slot (by simp [phase])
      have offHook : auOffHook s = stopNow .answerUnit .ringer (slot' (some c) true s) := by
        simp only [auOffHook, slot, phase]; rfl
    · refine ⟨offHook, ?_, ?_, kept, flash⟩
      · simp only [auHangUp, slot, phase, setSlot, queue_answer]; rfl
      · rw [clears, clearSounding, phase]; rfl
    · refine ⟨offHook, fun viewDoes => ?_, fun viewDoesNot => ?_, ?_, kept, flash⟩
      · simp only [auHangUp, slot, phase]
        exact if_pos viewDoes
      · have hangs : auHangUp s = hangUpDelivered c { s with answer.offHook := false } := by
          simp only [auHangUp, slot, phase]
        refine hangs.trans ((if_neg (Bool.eq_false_iff.mp viewDoesNot)).trans ?_)
        simp only [setSlot, queue_answer, slot]; rfl
      · rw [clears, clearSounding, phase]; rfl
    · refine ⟨offHook, ?_, flash, kept, ?_⟩
      · simp only [auHangUp, slot, phase]; rfl
      · rw [clears, clearSounding, phase]; rfl
  · intro s empty
    refine ⟨?_, ?_, ?_, ?_, fun x => ?_⟩
    · simp only [auOffHook, empty]
    · simp only [auHangUp, empty]
    · simp only [auFlash, empty]
    · simp only [auHeldByOthers, empty]
    · simp only [auClear, empty]

end

section
/-! The Request Unit: failure, the notices and replies that move the record, its expiries, and what the hook and the line do to it. -/

namespace Sys2Proof.Machine

/-! ## Queueing and sounding, by what they read -/

section Congruence

variable {s t : State}

theorem place_tx_congr (tx : t.tx = s.tx) (o : Agent) (w : LineWord) :
    (place o w t).tx = (place o w s).tx := by
  have after : ∀ u v : State, u.tx = v.tx → (afterPlacing o w u).tx = (afterPlacing o w v).tx := by
    intro u v same
    unfold afterPlacing
    split
    · rw [removeRequests_eq, removeRequests_eq, same]
    · exact same
  cases found : supersede w o (s.tx.queued w.kind.lane) with
  | some p =>
    rw [place_supersedes o w found, place_supersedes o w (tx ▸ found)]
    exact after _ _ (by rw [tx])
  | none =>
    by_cases room : (s.tx.entries w.kind.lane).length < w.kind.lane.capacity
    · rw [place_joins o w found room, place_joins o w (tx ▸ found) (tx ▸ room)]
      exact after _ _ (by rw [tx])
    · rw [place_drops o w found (not_lt.mp room), place_drops o w (tx ▸ found) (tx ▸ not_lt.mp room)]
      exact tx

theorem ownCode_congr (settings : t.settings = s.settings) : ownCode t = ownCode s := by
  simp only [ownCode, settings]

/-- What QUEUE does to the lanes depends on the lanes, the own code and the setup mode alone. -/
theorem queue_tx_congr (tx : t.tx = s.tx) (settings : t.settings = s.settings)
    (mode : t.link.setupMode = s.link.setupMode) (o : Agent) (k : Kind) (dst : Code)
    (arg : Option Code) : (queue o k dst arg t).tx = (queue o k dst arg s).tx := by
  unfold queue
  rw [ownCode_congr settings, mode]
  cases ownCode s with
  | none => exact tx
  | some own =>
    simp only
    split
    · exact tx
    · exact place_tx_congr tx o _

variable (engine : t.engine = s.engine)
include engine

theorem stopNow_engine_congr (a : Agent) (v : ScriptVoice) :
    (stopNow a v t).engine = (stopNow a v s).engine := by
  by_cases h : startedBy a (s.engine.voice v) = true
  · rw [stopNow_started h, stopNow_started (engine ▸ h), engine]
  · have no := Bool.eq_false_iff.mpr h
    rw [stopNow_ignored no, stopNow_ignored (engine ▸ no), engine]

theorem start_engine_congr (settings : t.settings = s.settings)
    (mode : t.link.setupMode = s.link.setupMode) (a : Agent) (sc : Script) :
    (start a sc t).engine = (start a sc s).engine := by
  have barred : startBarred sc t = startBarred sc s := by
    have trunkEnd : isTrunkEnd t = isTrunkEnd s := by
      rw [isTrunkEnd, isTrunkEnd, ownCode_congr settings]
    have service : inService t = inService s := by simp only [inService, isActive, settings, mode]
    rw [startBarred, startBarred, engine, trunkEnd, service]
  by_cases h : startBarred sc s = true ∨ outranked sc (s.engine.voice sc.voice) = true
  · rw [start_refused h, start_refused (by rw [barred, engine]; exact h)]
    exact engine
  · rw [start_taken h, start_taken (by rw [barred, engine]; exact h), engine]

end Congruence

/-! ## Failure (R142) -/

section Fail

variable (r : Request) (why : FailReason) (withClear : Bool) (s : State)

/-- R142: the failed record, its words withdrawn or cleared, its reverting bell stopped. -/
def failedQuietly : State :=
  let released := withdrawOrClear withClear r.called (setRecord (some (r.failed why s.request.offHook)) s)
  if r.state = .reverting then stopNow .requestUnit .ringer released else released

theorem failRequest_eq :
    failRequest r why withClear s = failureTone why (failedQuietly r why withClear s) := rfl

theorem failedQuietly_request :
    (failedQuietly r why withClear s).request =
      { s.request with record := some (r.failed why s.request.offHook) } := by
  have released : (withdrawOrClear withClear r.called
      (setRecord (some (r.failed why s.request.offHook)) s)).request =
        { s.request with record := some (r.failed why s.request.offHook) } := by
    cases withClear
    · rfl
    · exact queue_request ..
  unfold failedQuietly
  simp only
  split
  · rw [stopNow_request, released]
  · exact released

theorem failedQuietly_tx :
    (failedQuietly r why withClear s).tx =
      (if withClear then queue .requestUnit .clear r.called none s
        else withdraw .requestUnit r.called s).tx := by
  have released : (withdrawOrClear withClear r.called
      (setRecord (some (r.failed why s.request.offHook)) s)).tx =
        (if withClear then queue .requestUnit .clear r.called none s
          else withdraw .requestUnit r.called s).tx := by
    cases withClear
    · rfl
    · exact queue_tx_congr (t := setRecord (some (r.failed why s.request.offHook)) s) (s := s)
        rfl rfl rfl .requestUnit .clear r.called none
  unfold failedQuietly
  simp only
  split
  · rw [stopNow_tx, released]
  · exact released

/-- R142: the sounding of a failing record looks at the station as it was. -/
structure SoundsAlike (s t : State) : Prop where
  settings : t.settings = s.settings
  setupMode : t.link.setupMode = s.link.setupMode
  engine : t.engine = s.engine

theorem soundsAlike_released :
    SoundsAlike s (withdrawOrClear withClear r.called
      (setRecord (some (r.failed why s.request.offHook)) s)) := by
  cases withClear
  · exact ⟨rfl, rfl, rfl⟩
  · exact ⟨queue_settings .., congrArg (·.setupMode) (queue_link ..), queue_engine ..⟩

theorem soundsAlike_failedQuietly :
    SoundsAlike (if r.state = .reverting then stopNow .requestUnit .ringer s else s)
      (failedQuietly r why withClear s) := by
  have released := soundsAlike_released r why withClear s
  unfold failedQuietly
  simp only
  split
  · exact ⟨by rw [stopNow_settings, stopNow_settings, released.settings],
      by rw [stopNow_link, stopNow_link, released.setupMode],
      stopNow_engine_congr released.engine ..⟩
  · exact released

theorem failRequest_engine :
    (failRequest r why withClear s).engine =
      (let quiet := if r.state = .reverting then stopNow .requestUnit .ringer s else s
      if s.request.offHook then start .requestUnit why.tone quiet else quiet).engine := by
  have alike := soundsAlike_failedQuietly r why withClear s
  have hook : (failedQuietly r why withClear s).request.offHook = s.request.offHook := by
    rw [failedQuietly_request]
  rw [failRequest_eq, failureTone, hook]
  simp only
  split
  · exact start_engine_congr alike.engine alike.settings alike.setupMode _ _
  · exact alike.engine

theorem failRequest_request :
    (failRequest r why withClear s).request =
      { s.request with record := some (r.failed why s.request.offHook) } := by
  rw [failRequest_eq, failureTone]
  split
  · rw [start_request, failedQuietly_request]
  · exact failedQuietly_request ..

theorem failRequest_tx :
    (failRequest r why withClear s).tx =
      (if withClear then queue .requestUnit .clear r.called none s
        else withdraw .requestUnit r.called s).tx := by
  rw [failRequest_eq, failureTone]
  split
  · rw [start_tx, failedQuietly_tx]
  · exact failedQuietly_tx ..

theorem FailReason.tone_eq :
    why.tone = if why = .busy ∨ why = .locked then .busy else .error := by
  cases why <;> rfl

end Fail

/-! ## The record's own expiries -/

section Expiries

variable {s : State} {r : Request} (record : s.request.record = some r)
include record

theorem onRecord_eq (f : Request → State → State) : onRecord f s = f r s := by
  simp only [onRecord, record]

theorem expired_of {st : RequestState} {w : RequestWait} (state : r.state = st) (wait : r.wait = w)
    (timer : r.timer = 0) : expired st w s = true := by
  simp [expired, record, state, wait, timer]

theorem showExpired_of {why : FailReason} (state : r.state = .failed why) (wait : r.wait = .showing)
    (timer : r.timer = 0) : showExpired s = true := by
  simp [showExpired, record, state, wait, timer]

end Expiries

/-! ## The notices of its words -/

theorem Request.awaits_iff (r : Request) (st : RequestState) (x : Code) :
    r.awaits st x = true ↔ r.state = st ∧ r.wait = .sending ∧ r.called = x := by
  simp [Request.awaits, and_assoc]

section Notices

variable {s : State} {r : Request} (record : s.request.record = some r)
include record

theorem requestSent_awaited {st : RequestState} {x : Code}
    (h : r.state = st ∧ r.wait = .sending ∧ r.called = x) :
    requestSent st x s = setRecord (some r.replyWait) s := by
  simp only [requestSent, record, if_pos ((r.awaits_iff st x).mpr h)]

theorem requestSent_ignored {st : RequestState} {x : Code}
    (h : ¬(r.state = st ∧ r.wait = .sending ∧ r.called = x)) : requestSent st x s = s := by
  simp only [requestSent, record, if_neg (mt (r.awaits_iff st x).mp h)]

theorem ringAbandoned_fails {x : Code} (h : r.state = .requesting ∧ r.called = x) :
    ringAbandoned x s = failRequest r .noisy false s := by
  simp only [ringAbandoned, record, if_pos h]

theorem ringAbandoned_ignored {x : Code} (h : ¬(r.state = .requesting ∧ r.called = x)) :
    ringAbandoned x s = s := by
  simp only [ringAbandoned, record, if_neg h]

theorem pollAbandoned_misses {x : Code}
    (h : r.state = .waiting ∧ r.wait = .sending ∧ r.called = x) :
    pollAbandoned x s = missedPoll r s := by
  simp only [pollAbandoned, record, if_pos ((r.awaits_iff .waiting x).mpr h)]

theorem pollAbandoned_ignored {x : Code}
    (h : ¬(r.state = .waiting ∧ r.wait = .sending ∧ r.called = x)) : pollAbandoned x s = s := by
  simp only [pollAbandoned, record, if_neg (mt (r.awaits_iff .waiting x).mp h)]

/-! ## Replies -/

/-- R136: a matching reply in REQUESTING or WAITING. -/
theorem ruWord_underWay {w : LineWord} (called : r.called = w.src)
    (state : r.state = .requesting ∨ r.state = .waiting) : ruWord w s = replyTaken r w s := by
  obtain requesting | waiting := state
  · simp only [ruWord, record, if_pos called, requesting]
  · simp only [ruWord, record, if_pos called, waiting]

theorem ruWord_reverting {w : LineWord} (called : r.called = w.src) (state : r.state = .reverting) :
    ruWord w s = replyInRevert r w s := by
  simp only [ruWord, record, if_pos called, state]

theorem ruWord_unmatched {w : LineWord} (other : r.called ≠ w.src) : ruWord w s = s := by
  simp only [ruWord, record, if_neg other]

theorem ruWord_failed {w : LineWord} {why : FailReason} (state : r.state = .failed why) :
    ruWord w s = s := by
  simp only [ruWord, record, state, ite_self]

/-! ## Hook and line -/

theorem ruHeldByOthers_fails (state : r.state = .requesting ∨ r.state = .waiting)
    (notUrgent : r.cls ≠ .urgent) : ruHeldByOthers s = failRequest r .locked true s := by
  simp [ruHeldByOthers, record, (RequestState.underWay_iff _).mpr state, notUrgent]

theorem ruHeldByOthers_kept (h : ¬(r.state = .requesting ∨ r.state = .waiting) ∨ r.cls = .urgent) :
    ruHeldByOthers s = s := by
  obtain notUnderWay | urgent := h
  · have no := Bool.eq_false_iff.mpr (mt (RequestState.underWay_iff _).mp notUnderWay)
    simp [ruHeldByOthers, record, no]
  · simp [ruHeldByOthers, record, urgent]

end Notices

/-- R74: what WITHDRAW leaves queued. -/
theorem withdraw_queued (o : Agent) (dst : Code) (l : Lane) (s : State) :
    (withdraw o dst s).tx.queued l = keepEntries (fun e => !withdrawn o dst e) (s.tx.queued l) := by
  have flight : (withdraw o dst s).tx.inFlight l = s.tx.inFlight l := rfl
  rw [Transmitter.queued, flight, withdraw_entries, Transmitter.flying, Transmitter.queued]
  cases s.tx.inFlight l with
  | false => rfl
  | true => cases s.tx.entries l <;> rfl

theorem withdraw_none_left (o : Agent) (dst : Code) (l : Lane) (s : State) :
    ∀ e ∈ (withdraw o dst s).tx.queued l, ¬(e.owner = o ∧ e.word.dst = dst) := by
  intro e he gone
  let text := fun e : Entry => (e.owner, e.word.dst)
  have kept : text e ∈ ((s.tx.queued l).filter fun e => !withdrawn o dst e).map text := by
    rw [← keepEntries_map text fun _ => rfl, ← withdraw_queued]
    exact List.mem_map_of_mem he
  obtain ⟨f, hf, same⟩ := List.mem_map.mp kept
  obtain ⟨owner, dst_eq⟩ := Prod.mk.inj same
  have stays := (List.mem_filter.mp hf).2
  simp [withdrawn, owner, dst_eq, gone] at stays

end Sys2Proof.Machine
end

section
open Sys2Proof Sys2Proof.Machine

/-- Settles O48: `failRequest` field by field. -/
theorem failedRecordShowsItsReason : Obligations.FailedRecordShowsItsReason := by
  intro r why withClear s t off tone
  have engine := failRequest_engine r why withClear s
  have same : tone = why.tone := why.tone_eq.symm
  refine ⟨failRequest_request .., failRequest_tx .., ?_, ?_, ?_, ?_,
    only_mono (by decide) (request_failRequest s r why withClear)⟩
  · intro onHook notReverting
    have hook : s.request.offHook = false := onHook
    simpa [notReverting, hook] using engine
  · intro onHook reverting
    have hook : s.request.offHook = false := onHook
    simpa [reverting, hook] using engine
  · intro offHook notReverting
    have hook : s.request.offHook = true := offHook
    simpa [notReverting, hook, same] using engine
  · intro offHook reverting
    have hook : s.request.offHook = true := offHook
    simpa [reverting, hook, same] using engine

/-- Settles O49: `ruWord` by the record's state, then the reply by its kind. -/
theorem repliesMoveTheRecord : Obligations.RepliesMoveTheRecord := by
  intro r w s record put drop
  refine ⟨ruWord_unmatched record, fun called state => ?_, fun called state => ?_,
    fun why state => ruWord_failed record state⟩
  · have reply := ruWord_underWay record called state
    refine ⟨fun kind => ?_, fun kind => ?_, fun kind => ?_, fun kind => ?_⟩
    · intro t
      rw [reply, replyTaken, kind]; rfl
    · have refused : ruWord w s = if failReasonOf w.arg = .glare then dropRequest r.called s
          else failRequest r (failReasonOf w.arg) false s := by
        rw [reply, replyTaken, kind]
      refine ⟨fun arg => ?_, fun arg => ?_, fun arg => ?_, fun arg => ?_, fun arg => ?_⟩
      all_goals rw [refused, arg]; rfl
    · rw [reply, replyTaken, kind]
    · have answered : ruWord w s = answerTaken r s := by rw [reply, replyTaken, kind]
      refine ⟨fun trunk => ?_, fun farm offHook => ?_, fun farm onHook => ?_⟩
      · exact answered.trans (if_pos trunk)
      · exact answered.trans ((if_neg farm).trans (if_pos offHook))
      · exact answered.trans ((if_neg farm).trans (if_neg (Bool.eq_false_iff.mp onHook)))
  · have reply := ruWord_reverting record called state
    exact ⟨fun kind => reply.trans (if_pos kind), fun kind => reply.trans (if_neg kind)⟩

/-- Settles O47: the expiries by what each step does to the record; the notices by the kind of
word; finish of ERROR by the record's state. -/
theorem recordExpiriesActByStateAndWait : Obligations.RecordExpiriesActByStateAndWait := by
  refine ⟨?_, ?_, ?_⟩
  · rintro r s ⟨powered, inbox⟩ record timer put sending
    have expires {due : State → Bool} {take : State → State} {t : State} (isDue : due s = true)
        (taken : take s = t) : act (whenDueFinish due take) s = .next (finish t) := by
      rw [act_of_powered powered, whenDueFinish, if_pos isDue, taken]
    have isDue {st : RequestState} {w : RequestWait} (state : r.state = st) (wait : r.wait = w) :
        expired st w s = true := expired_of record state wait timer
    refine ⟨?_, ?_, ?_, ?_, ?_, ?_, ?_⟩
    · intro state wait few
      exact expires (due := ringReplyDue) (isDue state wait) ((onRecord_eq record _).trans (if_pos few))
    · intro state wait many
      exact expires (due := ringReplyDue) (isDue state wait)
        ((onRecord_eq record _).trans (if_neg (not_lt.mpr many)))
    · intro state wait
      exact expires (due := delayDue) (isDue state wait) (onRecord_eq record _)
    · intro state wait few
      exact expires (due := pollReplyDue) (isDue state wait) ((onRecord_eq record _).trans (if_pos few))
    · intro state wait many
      exact expires (due := pollReplyDue) (isDue state wait)
        ((onRecord_eq record _).trans (if_neg (not_lt.mpr many)))
    · intro state wait
      exact expires (due := revertDue) (isDue state wait) (onRecord_eq record _)
    · intro why state wait
      refine (expires (take := takeShow) (showExpired_of record state wait timer) rfl).trans ?_
      rw [finish_quiet (takeShow s) inbox]; rfl
  · intro w s sent abandoned unbroken
    have sent_eq : sent = ruSent w s := rfl
    have abandoned_eq (cause : AbandonCause) : abandoned cause = ruAbandoned w s := rfl
    refine ⟨fun kind alert => ⟨?_, fun cause => ?_⟩, fun kind station => ⟨fun other => ⟨?_, fun cause => ?_⟩,
      fun pending => ⟨fun empty => ?_, fun taken => ?_, fun cause => ?_⟩⟩, ?_, ?_, ?_⟩
    · rw [sent_eq, ruSent, kind]; exact if_pos alert
    · rw [abandoned_eq, ruAbandoned, kind]; exact if_pos alert
    · rw [sent_eq, ruSent, kind]; exact (if_neg station).trans (if_neg other)
    · rw [abandoned_eq, ruAbandoned, kind]; exact (if_neg station).trans (if_neg other)
    · have begins : sent = breakSent w.dst s := by
        rw [sent_eq, ruSent, kind]; exact (if_neg station).trans (if_pos pending)
      have free : slotEmpty unbroken = true := by simp [unbroken, slotEmpty, empty]
      refine (begins.trans (if_pos free)).trans ?_
      have kept : (queueRing .requestUnit .urgent w.dst unbroken).request = unbroken.request :=
        queue_request ..
      change setRecord _ (queueRing .requestUnit .urgent w.dst unbroken) = _
      rw [setRecord, kept]; rfl
    · have begins : sent = breakSent w.dst s := by
        rw [sent_eq, ruSent, kind]; exact (if_neg station).trans (if_pos pending)
      have full : ¬slotEmpty unbroken = true := by simpa [unbroken, slotEmpty] using taken
      exact begins.trans (if_neg full)
    · rw [abandoned_eq, ruAbandoned, kind]; exact (if_neg station).trans (if_pos pending)
    · rintro kind none_there
      obtain ring | poll := kind
      · rw [sent_eq, ruSent, ring]
        refine ⟨by simp only [requestSent, none_there], fun cause => ?_⟩
        rw [abandoned_eq, ruAbandoned, ring]
        simp only [ringAbandoned, none_there]
      · rw [sent_eq, ruSent, poll]
        refine ⟨by simp only [requestSent, none_there], fun cause => ?_⟩
        rw [abandoned_eq, ruAbandoned, poll]
        simp only [pollAbandoned, none_there]
    · intro notRing notPoll notBreak
      rw [sent_eq]
      refine ⟨?_, fun cause => (abandoned_eq cause).trans ?_⟩
      · unfold ruSent
        split
        · exact absurd ‹_› notBreak
        · exact absurd ‹_› notRing
        · exact absurd ‹_› notPoll
        all_goals rfl
      · unfold ruAbandoned
        split
        · exact absurd ‹_› notBreak
        · exact absurd ‹_› notRing
        · exact absurd ‹_› notPoll
        all_goals rfl
    · intro r record loaded
      refine ⟨fun kind => ?_, fun kind => ?_⟩
      · have ring_sent : sent = requestSent .requesting w.dst s := by rw [sent_eq, ruSent, kind]
        have ring_lost (cause) : abandoned cause = ringAbandoned w.dst s := by
          rw [abandoned_eq, ruAbandoned, kind]
        exact ⟨fun h => ring_sent.trans (requestSent_awaited record h),
          fun h => ring_sent.trans (requestSent_ignored record h),
          fun h cause => (ring_lost cause).trans (ringAbandoned_fails record h),
          fun h cause => (ring_lost cause).trans (ringAbandoned_ignored record h)⟩
      · have poll_sent : sent = requestSent .waiting w.dst s := by rw [sent_eq, ruSent, kind]
        have poll_lost (cause) : abandoned cause = pollAbandoned w.dst s := by
          rw [abandoned_eq, ruAbandoned, kind]
        refine ⟨fun h => ⟨poll_sent.trans (requestSent_awaited record h), fun few cause => ?_,
          fun many cause => ?_⟩, fun h => ⟨poll_sent.trans (requestSent_ignored record h), fun cause =>
          (poll_lost cause).trans (pollAbandoned_ignored record h)⟩⟩
        · refine ((poll_lost cause).trans (pollAbandoned_misses record h)).trans ((if_pos few).trans ?_)
          rw [setRecord, queue_request]; rfl
        · exact ((poll_lost cause).trans (pollAbandoned_misses record h)).trans
            (if_neg (not_lt.mpr many))
  · intro sc s t failed
    have t_eq : t = ruFinish sc s := rfl
    refine ⟨fun ⟨⟨r, why, record, state⟩, error⟩ => ?_, fun otherwise => ?_⟩
    · rw [t_eq, ruFinish, record]
      simp only [state]
      exact if_pos error
    · rw [t_eq]
      unfold ruFinish
      split
      next r record =>
        split
        next why state => exact if_neg fun error => otherwise ⟨⟨r, why, record, state⟩, error⟩
        all_goals rfl
      next => rfl

/-- Settles O50: each report's equation, in each state of the record. -/
theorem recordFollowsHookAndLine : Obligations.RecordFollowsHookAndLine := by
  refine ⟨?_, ?_, ?_⟩
  · intro r s record pending put abandoned underWay
    have hung : cancelBreak { s with request.offHook := false } = put (some r) false s := by
      simp [cancelBreak, pending, record, put]
    have lifted : { s with request.offHook := true } = put (some r) true s := by
      simp [pending, record, put]
    have abandons (hook : Bool) : abandonRequest r (put (some r) hook s) = abandoned hook := by
      simp only [abandonRequest, abandoned, setRecord, queue_request]
      rfl
    refine ⟨fun state => ?_, fun state => ?_, fun why state => ?_⟩
    · have hangs : ruHangUp s = hangUpDuring r (put (some r) false s) := by
        unfold ruHangUp
        rw [hung]
        obtain requesting | waiting := state
        · simp only [put, requesting]
        · simp only [put, waiting]
      have lifts : ruOffHook s = liftDuring r (put (some r) true s) := by
        unfold ruOffHook
        rw [lifted]
        obtain requesting | waiting := state
        · simp only [put, requesting]
        · simp only [put, waiting]
      refine ⟨fun relifted => ?_, fun first => ?_, fun away answerable => ?_, fun away notAnswerable => ?_,
        fun there => ?_, ruHeldByOthers_fails record state, fun urgent =>
        ruHeldByOthers_kept record (.inr urgent)⟩
      · rw [hangs, hangUpDuring, if_pos relifted, abandons]
      · rw [hangs, hangUpDuring, if_neg (Bool.eq_false_iff.mp first)]
        cases away : r.away with
        | false => rfl
        | true => simp [put, ← away]
      · rw [lifts, liftDuring, if_pos away]
        exact (if_pos answerable).trans (abandons true)
      · rw [lifts, liftDuring, if_pos away]
        exact if_neg (Bool.eq_false_iff.mp notAnswerable)
      · rw [lifts, liftDuring, if_neg (Bool.eq_false_iff.mp there)]
    · have lifts : ruOffHook s = liftInRevert r (put (some r) true s) := by
        unfold ruOffHook
        rw [lifted]
        simp only [put, state]
      refine ⟨?_, ruHeldByOthers_kept record (.inl (by simp [state])), fun notAnswerable => ?_,
        fun answerable => ?_⟩
      · unfold ruHangUp
        rw [hung]
        simp only [put, state]
      · exact lifts.trans (if_neg (Bool.eq_false_iff.mp notAnswerable))
      · exact lifts.trans (if_pos answerable)
    · refine ⟨?_, ruHeldByOthers_kept record (.inl (by simp [state])), fun showing => ?_⟩
      · unfold ruHangUp
        rw [hung]
        simp only [put, state, setRecord]
      · unfold ruOffHook
        rw [lifted]
        simp only [put, state, liftInFailed, if_pos showing, setRecord]
  · intro x s pending cancelled
    refine ⟨?_, withdraw_none_left .requestUnit x .prompt s⟩
    have same : cancelBreak { s with request.offHook := false } =
        cancelBreak { cancelled with request.offHook := false } := by
      simp only [cancelBreak, pending]
      rfl
    unfold ruHangUp
    rw [same]
  · intro s record
    refine ⟨fun pending => ?_, ?_, ?_⟩
    · simp [ruHangUp, cancelBreak, pending, record]
    · simp only [ruOffHook, record]
    · simp only [ruHeldByOthers, record]

end

section
/-! The Dial Decoder: pulses, digits, the dial plan and its checks. -/

namespace Sys2Proof.Machine

/-! ## Commands whose events are all lost events -/

theorem drain_lost (n : Nat) (s : State) (lost : ∀ e ∈ s.inbox, ∃ a sc, e = Event.lost a sc) :
    drain n s = { s with inbox := [] } := by
  induction n generalizing s with
  | zero => rfl
  | succ n ih =>
    unfold drain
    split
    next empty => rw [← empty]
    next e rest first =>
      rw [first] at lost
      obtain ⟨a, sc, rfl⟩ := lost e (List.mem_cons_self ..)
      exact ih { s with inbox := rest } fun e he => lost e (List.mem_cons_of_mem _ he)

theorem finish_lost {s t : State} (quiet : s.inbox = []) (h : OnlyLost s t) :
    finish t = followDial { t with inbox := [] } := by
  obtain ⟨tones, lost, eq⟩ := h
  exact congrArg followDial (drain_lost _ t (by rw [eq, quiet]; exact lost))

theorem followDial_open {s : State} (h : diallingOpen s = true) : followDial s = s :=
  if_neg fun ⟨_, no⟩ => by simp [h] at no

theorem followDial_onHook {s : State} (h : s.dial.hook = .onHook) : followDial s = s :=
  if_neg fun ⟨no, _⟩ => no h

theorem diallingOpen_iff (s : State) :
    diallingOpen s = true ↔ s.dial.hook = .offHook ∧ s.request.record = none ∧
      s.request.pendingBreak = none ∧ isParty s = false ∧ s.answer.slot = none ∧
      s.settings ≠ none ∧ s.link.setupMode = false := by
  simp [diallingOpen, requestClear, recordNone, slotEmpty, inService, isActive,
    Option.isSome_iff_ne_none, and_assoc]

/-! ## The checks of R130 -/

section Checks

variable {s : State} {x : Code}

theorem urgentPermitted_iff : urgentPermitted s = true ↔ permissionsOf s = 1 ∨ permissionsOf s = 3 := by
  simp [urgentPermitted]

theorem alertPermitted_iff : alertPermitted s = true ↔ permissionsOf s = 2 ∨ permissionsOf s = 3 := by
  simp [alertPermitted]

theorem heldUrgent_iff : heldUrgent s = true ↔ ∃ a b, s.view.record = .held a b .urgent := by
  unfold heldUrgent
  cases s.view.record <;> simp

theorem callBarred_own (own : ownCode s = some x) (u : Bool) : callBarred u x s = some .error :=
  if_pos own

variable (other : ownCode s ≠ some x)
include other

theorem callBarred_notPermitted (h : ¬(permissionsOf s = 1 ∨ permissionsOf s = 3)) :
    callBarred true x s = some .error := by
  have no := Bool.eq_false_iff.mpr (mt urgentPermitted_iff.mp h)
  simp [callBarred, other, no]

theorem callBarred_ordinary :
    callBarred false x s = if heldByOthers s then some .lockout else none := by
  simp [callBarred, other]

theorem callBarred_urgent (h : permissionsOf s = 1 ∨ permissionsOf s = 3) :
    callBarred true x s = if heldByOthers s && heldUrgent s then some .lockout else none := by
  simp [callBarred, other, urgentPermitted_iff.mpr h]

end Checks

section Settle

variable {s : State} {x : Code} {u : Bool}

theorem settleDialling_barred {sc : Script} (h : callBarred u x s = some sc) :
    settleDialling (.call u x) s = rejectDialling sc s := by
  simp only [settleDialling, h]

theorem settleDialling_admitted (h : callBarred u x s = none) :
    settleDialling (.call u x) s = dialledCall u x (setDial s.dial.settled s) := by
  simp only [settleDialling, h]

theorem dialledCall_rings (clear : requestClear s = true) (h : u = false ∨ heldByOthers s = false) :
    dialledCall u x s =
      start .requestUnit .instruct (ringFor x (if u then .urgent else .ordinary) false s) := by
  have ordinary : (u && heldByOthers s) = false := by
    obtain rfl | free := h
    · rfl
    · rw [free, Bool.and_false]
  simp [dialledCall, clear, ordinary]

theorem dialledCall_breaksIn (clear : requestClear s = true) (h : heldByOthers s = true) :
    dialledCall true x s = beginBreakIn x s := by
  simp [dialledCall, clear, h]

theorem ringFor_eq (cls : CallClass) (away : Bool) :
    ringFor x cls away s =
      { queue .requestUnit .ring x (some cls.digit) s with
        request := { s.request with
          record := some ⟨.requesting, x, cls, 1, 0, away, false, .sending, 0⟩ } } := by
  have kept : (queueRing .requestUnit cls x s).request = s.request := queue_request ..
  rw [ringFor, setRecord, kept]
  rfl

end Settle

end Sys2Proof.Machine
end

section
open Sys2Proof Sys2Proof.Machine

/-- Settles O53: each step where it is due; the ERROR tone raises lost events at most. -/
theorem pulsesAreCountedAndInvalidDigitsBarred : Obligations.PulsesAreCountedAndInvalidDigitsBarred := by
  rintro s ⟨powered, inbox⟩ put ended
  have ended_iff : openingEnded s = true ↔ ended := by simp [openingEnded, ended, and_assoc]
  refine ⟨fun isOpen reading isEnded few => ?_, fun isOpen reading invalid => ?_, fun barred closure => ?_⟩
  · have due : pulseDue s = true := by
      simp [pulseDue, readingDigit, isOpen, reading, ended_iff.mpr isEnded, few]
    exact (act_of_powered powered settlePulse).trans (congrArg _ (if_pos due))
  · have due : invalidDigitDue s = true := by
      simpa [invalidDigitDue, readingDigit, isOpen, reading, ended_iff] using invalid
    refine (act_of_powered powered settleInvalidDigit).trans (congrArg _ ((if_pos due).trans ?_))
    have cleared : ({ s.dial.discard with state := .barred } : DialDecoder) =
        { s.dial with
          pulses := 0, opening := 0, closure := 0, buffer := [], digitWait := none
          state := .barred } := rfl
    rw [takeInvalidDigit, finish_lost (s := setDial { s.dial.discard with state := .barred } s) inbox
      (onlyLost_start _ _ _), followDial_open, cleared]
    · rfl
    · obtain ⟨hook, rest⟩ := (diallingOpen_iff s).mp isOpen
      refine (diallingOpen_iff _).mpr ?_
      simp only [start_dial, start_request, start_answer, start_settings, start_link, isParty, ownCode,
        start_view]
      exact ⟨hook, rest⟩
  · have due : barredReleaseDue s = true := by simp [barredReleaseDue, barred, closure]
    exact (act_of_powered powered settleBarredRelease).trans (congrArg _ (if_pos due))

/-- Settles O54: the plan for every digit by evaluation, then the checks of R130 in their order. -/
theorem dialledNumberIsSettled : Obligations.DialledNumberIsSettled := by
  refine ⟨by decide, ?_, ?_⟩
  · rintro s ⟨powered, inbox⟩ isOpen put digits
    refine ⟨fun counting closure => ?_, fun waited => ?_⟩
    · have due : digitEndDue s = true := by simp [digitEndDue, isOpen, counting, closure]
      exact (act_of_powered powered settleDigitEnd).trans (congrArg _ (if_pos due))
    · have due : digitWaitDue s = true := by simp [digitWaitDue, isOpen, waited]
      exact (act_of_powered powered settleDigitWait).trans (congrArg _ (if_pos due))
  · intro x s clean handed tone p others
    refine ⟨rfl, rfl, fun not2 not3 => ?_, fun permitted => ?_, fun own u => ?_, fun other => ⟨?_, ?_, ?_, ?_⟩⟩
    · exact if_neg (mt alertPermitted_iff.mp (not_or.mpr ⟨not2, not3⟩))
    · exact if_pos (alertPermitted_iff.mpr permitted)
    · exact settleDialling_barred (callBarred_own own u)
    · exact fun not1 not3 => settleDialling_barred (callBarred_notPermitted other (not_or.mpr ⟨not1, not3⟩))
    · exact fun held => settleDialling_barred ((callBarred_ordinary other).trans (if_pos held))
    · intro permitted held urgent
      refine settleDialling_barred ((callBarred_urgent other permitted).trans (if_pos ?_))
      exact Bool.and_eq_true_iff.mpr ⟨held, heldUrgent_iff.mpr urgent⟩
    · intro record pending
      have clear : requestClear (setDial s.dial.settled s) = true :=
        requestClear_iff.mpr (not_or.mpr ⟨not_not.mpr record, not_not.mpr pending⟩)
      refine ⟨fun free => ?_, fun permitted free => ?_, fun permitted held notUrgent => ?_⟩
      · rw [settleDialling_admitted ((callBarred_ordinary other).trans
          (if_neg (Bool.eq_false_iff.mp free))), dialledCall_rings clear (.inl rfl), ringFor_eq]
        rfl
      · rw [settleDialling_admitted ((callBarred_urgent other permitted).trans (if_neg (by
          rw [show heldByOthers s = false from free]; simp))), dialledCall_rings clear (.inr free),
          ringFor_eq]
        rfl
      · have notHeldUrgent : heldUrgent s = false := Bool.eq_false_iff.mpr fun h =>
          let ⟨a, b, urgent⟩ := heldUrgent_iff.mp h
          notUrgent a b urgent
        rw [settleDialling_admitted ((callBarred_urgent other permitted).trans (if_neg (by
          rw [notHeldUrgent]; simp))), dialledCall_breaksIn clear held, beginBreakIn, setPendingBreak,
          queue_request]
        rfl

end

section
/-! The Trunk Interface's block end, offer and lapse, and the Lamp Driver's rows. -/

namespace Sys2Proof.Machine

section TrunkBlock

variable {s : State}

/-! ## The block end of the trunk-end -/

theorem endOffer_silence : (endOffer s).trunk.silence = s.trunk.silence := by
  unfold endOffer
  split <;> rfl

theorem wake_conds : (wake s).conds = s.conds := by
  unfold wake
  split <;> rfl

theorem wake_doze :
    (wake s).doze = if s.doze.dozing = true ∨ s.doze.count = 100 then ⟨false, 0⟩ else s.doze := by
  unfold wake
  simp only [Bool.or_eq_true, decide_eq_true_eq]
  split <;> rfl

theorem takeRise_silence : (takeRise s).trunk.silence = s.trunk.silence := by
  unfold takeRise
  simp only
  split <;> exact congrArg (·.silence) (wake_trunk s)

theorem takeRise_doze : (takeRise s).doze = (wake s).doze := by
  unfold takeRise
  simp only
  split <;> rfl

theorem takeRise_latched : (takeRise s).trunk.latched = some s.pins.trunkCode := by
  unfold takeRise
  simp only
  split <;> rfl

theorem namesFarm_iff (code : Code) : namesFarm code = true ↔ code ≠ 0 ∧ code ≠ 15 := by
  simp [namesFarm]

theorem takeRise_farm (h : s.pins.trunkCode ≠ 0 ∧ s.pins.trunkCode ≠ 15) :
    (takeRise s).trunk.incoming = .deferred ∧ (takeRise s).conds = s.conds := by
  rw [takeRise, if_pos ((namesFarm_iff _).mpr h)]
  exact ⟨rfl, wake_conds⟩

theorem takeRise_bad (h : s.pins.trunkCode = 0 ∨ s.pins.trunkCode = 15) :
    (takeRise s).trunk.incoming = .rejected ∧ (takeRise s).conds.badTrunkCode = true := by
  have notFarm : ¬namesFarm s.pins.trunkCode = true := fun farm =>
    h.elim ((namesFarm_iff _).mp farm).1 ((namesFarm_iff _).mp farm).2
  rw [takeRise, if_neg notFarm]
  exact ⟨rfl, rfl⟩

theorem trunkBlock_elsewhere (h : isTrunkEnd s = false) : trunkBlock s = s :=
  if_neg (Bool.eq_false_iff.mp h)

variable (trunkEnd : isTrunkEnd s = true)
include trunkEnd

theorem trunkBlock_silence :
    (trunkBlock s).trunk.silence = movedSilence s.trunk.silence s.pins.trunkRing := by
  rw [trunkBlock, if_pos trunkEnd]
  simp only
  split
  · rfl
  · have kept (u : State) (h : u.trunk.silence = movedSilence s.trunk.silence s.pins.trunkRing) :
        (if trunkLapseDue u then u else askTest (endOffer u)).trunk.silence =
          movedSilence s.trunk.silence s.pins.trunkRing := by
      split
      · exact h
      · exact endOffer_silence.trans h
    refine kept _ ?_
    split
    · exact takeRise_silence
    · rfl

theorem trunkBlock_setup (mode : s.link.setupMode = true) : trunkBlock s = readRing s := by
  rw [trunkBlock, if_pos trunkEnd]
  exact if_pos mode

variable (mode : s.link.setupMode = false)
include mode

/-- R149 to R151: a rise, which no lapse and no ended offer accompany. -/
theorem trunkBlock_rise (absent : 300 ≤ s.trunk.silence) (ring : s.pins.trunkRing = true) :
    trunkBlock s = askTest (takeRise (readRing s)) := by
  have rises : (!trunkPresent s && trunkPresent (readRing s)) = true := by
    have was : trunkPresent s = false := decide_eq_false (not_lt.mpr absent)
    have is : trunkPresent (readRing s) = true := by simp [trunkPresent, readRing, setTrunk, movedSilence, ring]
    rw [was, is]; rfl
  have noLapse : trunkLapseDue (takeRise (readRing s)) = false := by
    rw [trunkLapseDue, takeRise_silence]
    simp [readRing, setTrunk, movedSilence, ring]
  have noOffer : endOffer (takeRise (readRing s)) = takeRise (readRing s) := by
    refine if_neg fun ⟨offered, _⟩ => ?_
    by_cases farm : s.pins.trunkCode ≠ 0 ∧ s.pins.trunkCode ≠ 15
    · exact absurd ((takeRise_farm (s := readRing s) farm).1.symm.trans offered) (by decide)
    · have bad : s.pins.trunkCode = 0 ∨ s.pins.trunkCode = 15 := by
        by_contra none
        exact farm (not_or.mp none)
      exact absurd ((takeRise_bad (s := readRing s) bad).1.symm.trans offered) (by decide)
  rw [trunkBlock, if_pos trunkEnd]
  simp only
  rw [if_neg (show ¬(readRing s).link.setupMode = true from Bool.eq_false_iff.mp mode), if_pos rises,
    if_neg (Bool.eq_false_iff.mp noLapse), noOffer]

/-- R149, R151, R152: a block end that neither a rise nor a lapse falls on. -/
theorem trunkBlock_steady (present : s.trunk.silence < 300)
    (still : movedSilence s.trunk.silence s.pins.trunkRing < 300) :
    trunkBlock s = askTest (endOffer (readRing s)) := by
  have noRise : ¬(!trunkPresent s && trunkPresent (readRing s)) = true := by
    simp [trunkPresent, present]
  have noLapse : trunkLapseDue (readRing s) = false := by
    have low : (readRing s).trunk.silence ≠ 300 := ne_of_lt still
    simp [trunkLapseDue, low]
  rw [trunkBlock, if_pos trunkEnd]
  simp only
  rw [if_neg (show ¬(readRing s).link.setupMode = true from Bool.eq_false_iff.mp mode), if_neg noRise,
    if_neg (Bool.eq_false_iff.mp noLapse)]

end TrunkBlock

theorem offerStands_iff (s : State) :
    offerStands s = true ↔ ∃ r, s.request.record = some r ∧
      (r.state = .requesting ∨ r.state = .waiting) ∧ r.cls = .trunk ∧
        s.trunk.latched = some r.called := by
  unfold offerStands
  cases s.request.record with
  | none => simp
  | some r => simp [RequestState.underWay_iff, and_assoc]

theorem trunkFree_iff (s : State) :
    trunkFree s = true ↔ s.out.trunkConnect = false ∧ s.request.record = none ∧
      s.answer.slot = none ∧ s.view.record = .free := by
  simp [trunkFree, recordNone, slotEmpty, and_assoc]

theorem trunkLapseDue_iff (s : State) :
    trunkLapseDue s = true ↔ s.trunk.silence = 300 ∧ s.trunk.incoming ≠ .idle := by
  simp [trunkLapseDue]

theorem offerableCode_of {s : State} {x : Code} (incoming : s.trunk.incoming = .deferred)
    (latched : s.trunk.latched = some x) (test : s.trunk.testDue = true) (free : trunkFree s = true) :
    offerableCode s = some x := by
  obtain ⟨-, record, slot, -⟩ := (trunkFree_iff s).mp free
  have taken : originateTaken x s = true := by simp [originateTaken, recordNone, record, slot]
  simp only [offerableCode, latched]
  exact if_pos ⟨incoming, test, free, taken⟩

theorem offerableCode_none {s : State} (h : s.trunk.testDue = false ∨ trunkFree s = false) :
    offerableCode s = none := by
  unfold offerableCode
  split
  · refine if_neg fun ⟨_, test, free, _⟩ => ?_
    obtain noTest | notFree := h
    · simp [noTest] at test
    · simp [notFree] at free
  · rfl

theorem ruCancel_taken {s : State} {r : Request} (record : s.request.record = some r)
    (state : r.state = .requesting ∨ r.state = .waiting) (cls : r.cls = .trunk) :
    ruCancel s = abandonRequest r s := by
  simp [ruCancel, record, (RequestState.underWay_iff _).mpr state, cls]

theorem ruCancel_ignored {s : State}
    (h : ∀ r, s.request.record = some r →
      r.cls ≠ .trunk ∨ r.state = .reverting ∨ ∃ why, r.state = .failed why) : ruCancel s = s := by
  unfold ruCancel
  split
  next r record =>
    refine if_neg fun both => ?_
    obtain ⟨underWay, trunk⟩ := Bool.and_eq_true_iff.mp both
    obtain other | ended := h r record
    · exact other (of_decide_eq_true trunk)
    · have state := (RequestState.underWay_iff _).mp underWay
      obtain reverting | ⟨why, failed⟩ := ended
      · simp [reverting] at state
      · simp [failed] at state
  next => rfl

/-! ## The lamp -/

theorem lampBusy_iff (s : State) :
    lampBusy s = true ↔ isParty s = true ∨
      (∃ r, s.request.record = some r ∧ ∀ why, r.state ≠ .failed why) ∨
        s.request.pendingBreak ≠ none := by
  have pending : s.request.pendingBreak.isSome = true ↔ s.request.pendingBreak ≠ none :=
    Option.isSome_iff_ne_none
  have making : (match s.request.record with
      | some r => (match r.state with
        | .requesting | .waiting | .reverting => true
        | .failed _ => false)
      | none => false) = true ↔ ∃ r, s.request.record = some r ∧ ∀ why, r.state ≠ .failed why := by
    cases s.request.record with
    | none => simp
    | some r => cases h : r.state <;> simp [h]
  rw [lampBusy, Bool.or_eq_true, Bool.or_eq_true, pending, or_assoc]
  exact or_congr_right (or_comm.trans (or_congr_left making))

theorem lampFailed_iff (s : State) :
    lampFailed s = true ↔
      (∃ r why, s.request.record = some r ∧ r.state = .failed why) ∧ s.request.offHook = false := by
  unfold lampFailed
  cases s.request.record with
  | none => simp
  | some r => cases h : r.state <;> simp [h]

theorem chosenPattern_setup {s : State} (h : s.link.setupMode = true) : chosenPattern s = .steady :=
  if_pos h

/-- R168: the pattern outside setup mode and with a valid page. -/
theorem chosenPattern_inService {s : State} (mode : s.link.setupMode = false)
    (active : s.settings ≠ none) :
    chosenPattern s =
      if s.conds.clash then .doubleFlash
      else if lampBusy s then .steady
      else if lampFailed s then .tripleFlash
      else if heldByOthers s then .slowFlash
      else .off := by
  have isOn : isActive s = true := Option.isSome_iff_ne_none.mpr active
  simp [chosenPattern, mode, isOn]

end Sys2Proof.Machine
end

section
open Sys2Proof Sys2Proof.Machine

/-- Settles O55: the block end by its equations, then the offer and the lapse where they are due. -/
theorem exchangeCallRisesIsOfferedAndLapses : Obligations.ExchangeCallRisesIsOfferedAndLapses := by
  refine ⟨?_, ?_⟩
  · intro s silence code
    refine ⟨trunkBlock_elsewhere, trunkBlock_silence, trunkBlock_setup, ?_, ?_⟩
    · intro trunkEnd mode absent ring
      rw [trunkBlock_rise trunkEnd mode absent ring]
      refine ⟨takeRise_latched (s := readRing s), takeRise_doze.trans (wake_doze (s := readRing s)),
        fun bad => takeRise_bad (s := readRing s) bad, fun not0 not15 => ?_⟩
      obtain ⟨deferred, conds⟩ := takeRise_farm (s := readRing s) ⟨not0, not15⟩
      exact ⟨deferred, conds, decide_eq_true deferred⟩
    · intro trunkEnd mode present still
      rw [trunkBlock_steady trunkEnd mode present still]
      refine ⟨fun x deferred latched => ?_, fun x offered latched => ?_⟩
      · have goesOn : endOffer (readRing s) = readRing s :=
          if_neg fun ⟨offered, _⟩ => absurd (deferred.symm.trans offered) (by decide)
        rw [goesOn, askTest, readRing, setTrunk]
        simp only [deferred, latched]
        rfl
      · intro stands
        have stands_iff : offerStands (readRing s) = true ↔ stands := by
          have named (r : Request) : (some x = some r.called) = (r.called = x) := by
            rw [Option.some.injEq, @eq_comm _ x]
          rw [offerStands_iff]
          simp only [readRing, setTrunk, latched, named, stands]
        refine ⟨fun yes => ?_, fun no => ?_⟩
        · have goesOn : endOffer (readRing s) = readRing s :=
            if_neg fun ⟨_, ended⟩ => by simp [stands_iff.mpr yes] at ended
          rw [goesOn, askTest, readRing, setTrunk]
          simp only [offered, latched]
          rfl
        · have ends : endOffer (readRing s) =
              setTrunk { (readRing s).trunk with incoming := .done } (readRing s) :=
            if_pos ⟨offered, Bool.eq_false_iff.mpr (mt stands_iff.mp no)⟩
          rw [ends, askTest, readRing, setTrunk]
          simp only [latched]
          rfl
  · rintro s ⟨powered, inbox⟩ lapsed
    refine ⟨?_, ?_, ?_, ?_, ?_⟩
    · intro x incoming latched present test connect record slot free
      have code := offerableCode_of incoming latched test
        ((trunkFree_iff s).mpr ⟨connect, record, slot, free⟩)
      have noLapse : trunkLapseDue s = false :=
        Bool.eq_false_iff.mpr fun h => present ((trunkLapseDue_iff s).mp h).1
      have due : originateDue s = true := by simp [originateDue, noLapse, code]
      have taken : takeOriginate s =
          ruOriginate x (setTrunk { s.trunk with incoming := .offered, testDue := false } s) := by
        simp only [takeOriginate, code]
      refine (act_of_powered powered settleOriginate).trans (congrArg _ ((if_pos due).trans ?_))
      rw [taken, ruOriginate, ringFor_eq]
      rfl
    · intro h deferred
      have notDue : originateDue s = false := by
        obtain silent | h := h
        · have lapse : trunkLapseDue s = true :=
            (trunkLapseDue_iff s).mpr ⟨silent, by rw [deferred]; decide⟩
          rw [originateDue, lapse]; rfl
        · have none_offered : offerableCode s = none := by
            refine offerableCode_none (h.imp_right fun busy => Bool.eq_false_iff.mpr fun free => ?_)
            obtain ⟨connect, record, slot, isFree⟩ := (trunkFree_iff s).mp free
            simp [connect, record, slot, isFree] at busy
          rw [originateDue, none_offered, Option.isSome_none, Bool.and_false]
      exact (act_of_powered powered settleOriginate).trans
        (congrArg _ (if_neg (Bool.eq_false_iff.mp notDue)))
    all_goals
      have lapses {t : State} (silent : s.trunk.silence = 300) (busy : s.trunk.incoming ≠ .idle)
          (cancelled : (if s.trunk.incoming = .offered then ruCancel s else s) = t)
          (trunk : t.trunk.silence = 300) :
          exec .trunkLapse s = .next (finish (lapsed t)) := by
        have due := (trunkLapseDue_iff s).mpr ⟨silent, busy⟩
        refine (act_of_powered powered settleTrunkLapse).trans (congrArg _ ((if_pos due).trans ?_))
        rw [takeTrunkLapse, cancelled]
        exact congrArg (fun n => finish { t with trunk := ⟨n, none, .idle, false⟩ }) trunk
    · intro silent notIdle notOffered
      rw [lapses silent notIdle (if_neg notOffered) silent, finish_quiet (lapsed s) inbox]
    · intro r silent offered record state cls
      have cancelled : ruCancel s =
          { queue .requestUnit .clear r.called none s with
            request := { s.request with record := none } } := by
        rw [ruCancel_taken record state cls, abandonRequest, setRecord, queue_request]
      exact lapses silent (by rw [offered]; decide) ((if_pos offered).trans cancelled)
        ((congrArg (·.silence) (queue_trunk ..)).trans silent)
    · intro silent offered ignored
      rw [lapses silent (by rw [offered]; decide) ((if_pos offered).trans (ruCancel_ignored ignored))
        silent, finish_quiet (lapsed s) inbox]

/-- Settles O56: the rows by `chosenPattern_inService`, the timing by evaluation of `Lamp.next`. -/
theorem lampShowsTheFirstRowThatHolds : Obligations.LampShowsTheFirstRowThatHolds := by
  refine ⟨?_, ?_, fun n => ⟨rfl, rfl, rfl, rfl⟩⟩
  · intro s p making failed row4
    refine ⟨chosenPattern_setup, fun mode unset => ?_, fun mode active => ?_⟩
    · simp [p, chosenPattern, mode, isActive, unset]
    · have busy_iff : lampBusy s = true ↔ row4 := lampBusy_iff s
      have failed_iff : lampFailed s = true ↔ failed ∧ s.request.offHook = false := lampFailed_iff s
      have chosen := chosenPattern_inService mode active
      refine ⟨fun clash => chosen.trans (if_pos clash), fun noClash => ?_⟩
      have below : p = if lampBusy s then .steady else if lampFailed s then .tripleFlash
          else if heldByOthers s then .slowFlash else .off :=
        chosen.trans (if_neg (Bool.eq_false_iff.mp noClash))
      refine ⟨fun busy => ?_, fun idle hasFailed onHook => ?_, fun idle notFailed held => ?_,
        fun idle notFailed free => ?_⟩
      · rw [below, if_pos (busy_iff.mpr busy)]
      · rw [below, if_neg (mt busy_iff.mp idle), if_pos (failed_iff.mpr ⟨hasFailed, onHook⟩)]
      · rw [below, if_neg (mt busy_iff.mp idle), if_neg (mt failed_iff.mp notFailed), if_pos held]
      · rw [below, if_neg (mt busy_iff.mp idle), if_neg (mt failed_iff.mp notFailed),
          if_neg (Bool.eq_false_iff.mp free)]
  · intro l p
    refine ⟨fun other => ?_, fun same => ⟨rfl, ?_, rfl⟩⟩
    · have begins : p.lit 0 = decide (p ≠ .off) := by cases p <;> rfl
      simp only [Lamp.next, if_neg other, begins]
    · rw [Lamp.next, if_pos same]
      cases p <;> rfl

end

section
/-! What the moves of the blocks of the calls leave alone beside the parts they do not touch: the hook items, the idle count, OVERDRIVE, a silent voice 2 on-hook, and a pending break that is absent. -/

namespace Sys2Proof.Machine

variable (s : State)

/-- From `s` to `t` the hook items and OVERDRIVE stay, the idle count stays or is 0, on-hook a silent voice 2 stays silent, and no break comes to be pending. -/
structure Heard (s t : State) : Prop where
  engineHook : t.engine.offHook = s.engine.offHook
  viewHook : t.view.offHook = s.view.offHook
  answerHook : t.answer.offHook = s.answer.offHook
  requestHook : t.request.offHook = s.request.offHook
  silent : s.engine.offHook = false → s.engine.ear.script = none → t.engine.ear.script = none
  unbroken : s.request.pendingBreak = none → t.request.pendingBreak = none
  overdrive : t.conds.overdrive = s.conds.overdrive
  idle : t.view.idle = s.view.idle ∨ t.view.idle = 0

/-- A move that besides leaves the idle count. -/
structure Calm (s t : State) : Prop extends Heard s t where
  sameIdle : t.view.idle = s.view.idle

theorem Heard.refl : Heard s s := ⟨rfl, rfl, rfl, rfl, fun _ h => h, id, rfl, .inl rfl⟩

theorem Calm.refl : Calm s s := ⟨.refl s, rfl⟩

variable {s} in
theorem Heard.trans {t u : State} (h₁ : Heard s t) (h₂ : Heard t u) : Heard s u where
  engineHook := h₂.engineHook.trans h₁.engineHook
  viewHook := h₂.viewHook.trans h₁.viewHook
  answerHook := h₂.answerHook.trans h₁.answerHook
  requestHook := h₂.requestHook.trans h₁.requestHook
  silent hook ear := h₂.silent (h₁.engineHook.trans hook) (h₁.silent hook ear)
  unbroken := h₂.unbroken ∘ h₁.unbroken
  overdrive := h₂.overdrive.trans h₁.overdrive
  idle := h₂.idle.elim (fun same => h₁.idle.imp same.trans same.trans) .inr

variable {s} in
theorem Calm.trans {t u : State} (h₁ : Calm s t) (h₂ : Calm t u) : Calm s u :=
  ⟨h₁.toHeard.trans h₂.toHeard, h₂.sameIdle.trans h₁.sameIdle⟩

variable {s} in
theorem Calm.ite {t u : State} {c : Prop} [Decidable c] (h₁ : Calm s t) (h₂ : Calm s u) :
    Calm s (if c then t else u) := by
  split <;> assumption

variable {s} in
theorem Heard.ite {t u : State} {c : Prop} [Decidable c] (h₁ : Heard s t) (h₂ : Heard s u) :
    Heard s (if c then t else u) := by
  split <;> assumption

/-- A move that leaves what `Calm` speaks of. -/
theorem calm_of {s t : State} (engine : t.engine.offHook = s.engine.offHook)
    (ear : t.engine.ear = s.engine.ear) (view : t.view.offHook = s.view.offHook)
    (idle : t.view.idle = s.view.idle) (answer : t.answer.offHook = s.answer.offHook)
    (request : t.request.offHook = s.request.offHook)
    (pendingBreak : t.request.pendingBreak = s.request.pendingBreak)
    (overdrive : t.conds.overdrive = s.conds.overdrive) : Calm s t :=
  ⟨⟨engine, view, answer, request, fun _ h => ear ▸ h, fun h => pendingBreak.trans h, overdrive,
    .inl idle⟩, idle⟩

theorem calm_inbox (es : List Event) : Calm s { s with inbox := es } :=
  calm_of rfl rfl rfl rfl rfl rfl rfl rfl

theorem calm_setSlot (c : Option Call) : Calm s (setSlot c s) :=
  calm_of rfl rfl rfl rfl rfl rfl rfl rfl

theorem calm_setRecord (r : Option Request) : Calm s (setRecord r s) :=
  calm_of rfl rfl rfl rfl rfl rfl rfl rfl

theorem calm_setTrunk (t : TrunkInterface) : Calm s (setTrunk t s) :=
  calm_of rfl rfl rfl rfl rfl rfl rfl rfl

theorem calm_noBreak : Calm s (setPendingBreak none s) :=
  ⟨⟨rfl, rfl, rfl, rfl, fun _ h => h, fun _ => rfl, rfl, .inl rfl⟩, rfl⟩

theorem calm_followDial : Calm s (followDial s) :=
  .ite (calm_of rfl rfl rfl rfl rfl rfl rfl rfl) (.refl s)

theorem calm_wake : Calm s (wake s) := .ite (calm_of rfl rfl rfl rfl rfl rfl rfl rfl) (.refl s)

/-! ## Queueing -/

variable {s} in
theorem calm_of_tx {t : State} (h : OnlyParts sendParts s t)
    (overdrive : t.conds.overdrive = s.conds.overdrive) : Calm s t := by
  have engine : t.engine = s.engine := h .engine (by decide)
  have view : t.view = s.view := h .view (by decide)
  have answer : t.answer = s.answer := h .answer (by decide)
  have request : t.request = s.request := h .request (by decide)
  exact calm_of (by rw [engine]) (by rw [engine]) (by rw [view]) (by rw [view]) (by rw [answer])
    (by rw [request]) (by rw [request]) overdrive

theorem afterPlacing_conds (o : Agent) (w : LineWord) : (afterPlacing o w s).conds = s.conds := by
  unfold afterPlacing
  split
  · rw [removeRequests_eq]
  · rfl

theorem place_overdrive (o : Agent) (w : LineWord) :
    (place o w s).conds.overdrive = s.conds.overdrive := by
  cases found : supersede w o (s.tx.queued w.kind.lane) with
  | some p => rw [place_supersedes o w found, afterPlacing_conds]
  | none =>
    by_cases room : (s.tx.entries w.kind.lane).length < w.kind.lane.capacity
    · rw [place_joins o w found room, afterPlacing_conds]
    · rw [place_drops o w found (not_lt.mp room)]

theorem queue_overdrive (o : Agent) (k : Kind) (dst : Code) (arg : Option Code) :
    (queue o k dst arg s).conds.overdrive = s.conds.overdrive := by
  unfold queue
  split
  · rfl
  · split
    · rfl
    · exact place_overdrive s o _

theorem calm_queue (o : Agent) (k : Kind) (dst : Code) (arg : Option Code) :
    Calm s (queue o k dst arg s) := calm_of_tx (send_queue s o k dst arg) (queue_overdrive s o k dst arg)

theorem calm_withdraw (o : Agent) (dst : Code) : Calm s (withdraw o dst s) :=
  calm_of rfl rfl rfl rfl rfl rfl rfl rfl

/-! ## Sounding -/

/-- An engine that keeps the hook item, and a silent voice 2. -/
theorem calm_engine {e : Engine} {es : List Event} (hook : e.offHook = s.engine.offHook)
    (silent : s.engine.offHook = false → s.engine.ear.script = none → e.ear.script = none) :
    Calm s { s with engine := e, inbox := es } :=
  ⟨⟨hook, rfl, rfl, rfl, silent, id, rfl, .inl rfl⟩, rfl⟩

theorem setVoice_offHook (e : Engine) (v : ScriptVoice) (c : CadenceVoice) :
    (e.setVoice v c).offHook = e.offHook := by
  cases v <;> rfl

/-- A voice replaced by one whose script is the old one's or none. -/
theorem calm_setVoice (v : ScriptVoice) (c : CadenceVoice) (es : List Event)
    (h : (s.engine.voice v).script = none → c.script = none) :
    Calm s { s with engine := s.engine.setVoice v c, inbox := es } :=
  calm_engine s (setVoice_offHook ..) fun _ silent => by
    cases v with
    | earpiece => exact h silent
    | ringer => exact silent

theorem calm_start (a : Agent) (sc : Script) : Calm s (start a sc s) := by
  by_cases refused : startBarred sc s = true ∨ outranked sc (s.engine.voice sc.voice) = true
  · rw [start_refused refused]
    exact calm_inbox s _
  · rw [start_taken refused]
    refine calm_engine s (setVoice_offHook ..) fun onHook silent => ?_
    cases voice : sc.voice with
    | earpiece => exact absurd (.inl ((startBarred_iff s sc).mpr (.inl ⟨voice, onHook⟩))) refused
    | ringer => exact silent

theorem calm_stopNow (a : Agent) (v : ScriptVoice) : Calm s (stopNow a v s) := by
  by_cases h : startedBy a (s.engine.voice v) = true
  · rw [stopNow_started h]
    exact calm_setVoice s v _ _ fun _ => rfl
  · rw [stopNow_ignored (Bool.eq_false_iff.mpr h)]
    exact .refl s

theorem calm_stopAtCycle (a : Agent) (v : ScriptVoice) : Calm s (stopAtCycle a v s) := by
  by_cases h : startedBy a (s.engine.voice v) = true
  · rw [stopAtCycle_started h]
    exact calm_setVoice s v _ s.inbox id
  · rw [stopAtCycle_ignored (Bool.eq_false_iff.mpr h)]
    exact .refl s

/-! ## The Line View -/

theorem calm_refreshOutputs : Calm s (refreshOutputs s) := by
  have shown (b : Bool) : Calm s { s with out.privacy := b } := calm_of rfl rfl rfl rfl rfl rfl rfl rfl
  have privacy : Calm s (refreshPrivacy s) := by
    unfold refreshPrivacy privacyTone
    exact .ite ((shown _).trans (calm_start _ _ _))
      (.ite ((shown _).trans (calm_stopNow _ _ _)) (shown _))
  exact privacy.trans (calm_of rfl rfl rfl rfl rfl rfl rfl rfl)

theorem calm_setView (r : ViewRecord) : Calm s (setView r s) := by
  have record : Calm s { s with view.record := r } := calm_of rfl rfl rfl rfl rfl rfl rfl rfl
  have noted (u : State) (b : Bool) : Calm u (noteHeld b u) := .ite (calm_inbox u _) (.refl u)
  exact (record.trans (noted _ _)).trans (calm_refreshOutputs _)

theorem calm_pendingClear (p : Option PendingClear) : Calm s { s with view.pendingClear := p } :=
  calm_of rfl rfl rfl rfl rfl rfl rfl rfl

theorem calm_settlePending (dst : Code) : Calm s (settlePending dst s) := by
  unfold settlePending
  split
  · exact .refl s
  · exact .ite (.ite ((calm_pendingClear s none).trans (calm_setView _ _)) (calm_pendingClear s none))
      (.refl s)

theorem calm_viewNotice (w : LineWord) : Calm s (viewNotice w s) :=
  .ite (calm_settlePending s _) (.refl s)

theorem calm_viewOwnClear : Calm s (viewOwnClear s) := by
  unfold viewOwnClear
  split
  · split
    · exact (calm_queue s _ _ _ _).trans (calm_pendingClear _ _)
    · exact .refl s
  · exact .refl s

theorem heard_idle : Heard s { s with view.idle := 0 } :=
  ⟨rfl, rfl, rfl, rfl, fun _ h => h, id, rfl, .inr rfl⟩

theorem heard_viewAnswer (x y : Code) : Heard s (viewAnswer x y s) := by
  obtain same | ⟨k, taken⟩ := viewAnswer_cases s x y
  · rw [same]; exact .refl s
  · rw [taken]; exact (heard_idle s).trans (calm_setView _ _).toHeard

theorem calm_viewClear (p q : Code) (own : Bool) : Calm s (viewClear p q own s) := by
  have freed : Calm s (if clearFrees s.view.record p q then freeView s else s) :=
    .ite (calm_setView s _) (.refl s)
  exact .ite (freed.trans (calm_settlePending _ _)) freed

theorem heard_viewBreak (k g : Code) : Heard s (viewBreak k g s) := by
  have broken : Heard s (brokenView k g s) :=
    (Heard.ite (heard_idle s) (.refl s)).trans (calm_setView _ _).toHeard
  rw [viewBreak_eq]
  exact .ite (broken.trans (calm_start _ _ _).toHeard) broken

theorem calm_rings (rings : List RingEntry) : Calm s { s with view.rings := rings } :=
  calm_of rfl rfl rfl rfl rfl rfl rfl rfl

theorem heard_viewWord (own : Bool) (w : LineWord) : Heard s (viewWord own w s) := by
  unfold viewWord
  split
  · exact (calm_rings s _).toHeard
  · exact (heard_viewAnswer s _ _).trans (calm_rings _ _).toHeard
  · exact (calm_rings s _).toHeard
  · exact ((calm_viewClear s _ _ _).trans (calm_rings _ _)).toHeard
  · exact .ite (.ite (.refl s) (calm_start s _ _).toHeard) (heard_viewBreak s _ _)
  · exact .refl s
  · exact .refl s

/-! ## The Request Unit -/

theorem calm_failRequest (r : Request) (why : FailReason) (c : Bool) :
    Calm s (failRequest r why c s) := by
  have words (u : State) : Calm u (withdrawOrClear c r.called u) :=
    .ite (calm_queue u _ _ _ _) (calm_withdraw u _ _)
  have quiet (u : State) :
      Calm u (if r.state = .reverting then stopNow .requestUnit .ringer u else u) :=
    .ite (calm_stopNow u _ _) (.refl u)
  have tone (u : State) : Calm u (failureTone why u) := .ite (calm_start u _ _) (.refl u)
  exact (((calm_setRecord s _).trans (words _)).trans (quiet _)).trans (tone _)

theorem calm_ringFor (x : Code) (k : CallClass) (away : Bool) : Calm s (ringFor x k away s) :=
  (calm_queue s _ _ _ _).trans (calm_setRecord _ _)

theorem calm_requestSent (st : RequestState) (x : Code) : Calm s (requestSent st x s) := by
  unfold requestSent
  split
  · exact .ite (calm_setRecord s _) (.refl s)
  · exact .refl s

theorem calm_breakSent (x : Code) : Calm s (breakSent x s) :=
  .ite ((calm_noBreak s).trans (calm_ringFor _ _ _ _)) ((calm_noBreak s).trans (calm_stopNow _ _ _))

theorem calm_ruSent (w : LineWord) : Calm s (ruSent w s) := by
  unfold ruSent
  split
  · exact .ite (calm_start s _ _) (.ite (calm_breakSent s _) (.refl s))
  · exact calm_requestSent s _ _
  · exact calm_requestSent s _ _
  all_goals exact .refl s

theorem calm_missedPoll (r : Request) : Calm s (missedPoll r s) :=
  .ite ((calm_queue s _ _ _ _).trans (calm_setRecord _ _)) (calm_failRequest s _ _ _)

theorem calm_ruAbandoned (w : LineWord) : Calm s (ruAbandoned w s) := by
  unfold ruAbandoned
  split
  · exact .ite (calm_start s _ _)
      (.ite ((calm_noBreak s).trans (calm_failRequest _ _ _ _)) (.refl s))
  · unfold ringAbandoned
    split
    · exact .ite (calm_failRequest s _ _ _) (.refl s)
    · exact .refl s
  · unfold pollAbandoned
    split
    · exact .ite (calm_missedPoll s _) (.refl s)
    · exact .refl s
  all_goals exact .refl s

theorem calm_dropRequest (x : Code) : Calm s (dropRequest x s) :=
  ((calm_withdraw s _ _).trans (calm_stopNow _ _ _)).trans (calm_setRecord _ _)

theorem calm_holdTaken (r : Request) : Calm s (holdTaken r s) := by
  have told : Calm s (withdraw .requestUnit r.called (setRecord
      (some { r with state := .waiting, misses := 0, wait := .delay, timer := 100 }) s)) :=
    (calm_setRecord s _).trans (calm_withdraw _ _ _)
  exact .ite (told.trans (calm_start _ _ _)) told

theorem calm_answerTaken (r : Request) : Calm s (answerTaken r s) := by
  have told := calm_withdraw s .requestUnit r.called
  exact .ite (told.trans (calm_setRecord _ _))
    (.ite (told.trans ((calm_setRecord _ _).trans (calm_stopNow _ _ _)))
      (told.trans ((calm_setRecord _ _).trans (calm_start _ _ _))))

theorem calm_replyTaken (r : Request) (w : LineWord) : Calm s (replyTaken r w s) := by
  unfold replyTaken
  split
  · exact calm_holdTaken s r
  · exact .ite (calm_dropRequest s _) (calm_failRequest s _ _ _)
  · exact calm_failRequest s _ _ _
  · exact calm_answerTaken s r
  all_goals exact .refl s

theorem calm_ruWord (w : LineWord) : Calm s (ruWord w s) := by
  unfold ruWord
  split
  · exact .refl s
  · refine .ite ?_ (.refl s)
    split
    · exact calm_replyTaken s _ w
    · exact calm_replyTaken s _ w
    · exact .ite (calm_failRequest s _ _ _) (.refl s)
    · exact .refl s

theorem calm_yieldTo (x : Code) : Calm s (yieldTo x s) := by
  unfold yieldTo
  split
  · exact calm_dropRequest s x
  · exact .refl s

theorem calm_ruHeldByOthers : Calm s (ruHeldByOthers s) := by
  unfold ruHeldByOthers
  split
  · exact .ite (calm_failRequest s _ _ _) (.refl s)
  · exact .refl s

theorem calm_abandonRequest (r : Request) : Calm s (abandonRequest r s) :=
  (calm_queue s _ _ _ _).trans (calm_setRecord _ _)

theorem calm_ruFinish (sc : Script) : Calm s (ruFinish sc s) := by
  unfold ruFinish
  split
  · split
    · exact .ite (calm_start s _ _) (.refl s)
    all_goals exact .refl s
  · exact .refl s

theorem calm_ruCancel : Calm s (ruCancel s) := by
  unfold ruCancel
  split
  · exact .ite (calm_abandonRequest s _) (.refl s)
  · exact .refl s

/-- R139, R141, R143: an off-hook report beside the hook item. -/
theorem calm_ruOffHook : Calm { s with request.offHook := true } (ruOffHook s) := by
  unfold ruOffHook
  simp only
  split
  · exact .refl _
  · have during (r : Request) (u : State) : Calm u (liftDuring r u) :=
      .ite (.ite (calm_abandonRequest u r) ((calm_setRecord u _).trans (calm_start _ _ _))) (.refl u)
    split
    · exact during _ _
    · exact during _ _
    · exact .ite (calm_failRequest _ _ _ _) ((calm_setRecord _ _).trans (calm_stopNow _ _ _))
    · exact .ite ((calm_setRecord _ _).trans (calm_start _ _ _)) (.refl _)

theorem calm_cancelBreak : Calm s (cancelBreak s) := by
  unfold cancelBreak
  split
  · exact (calm_withdraw s _ _).trans (calm_noBreak _)
  · exact .refl s

theorem cancelBreak_pendingBreak : (cancelBreak s).request.pendingBreak = none := by
  unfold cancelBreak
  split
  · rfl
  · assumption

/-- R133, R139, R143: a HANG-UP beside the hook item. -/
theorem calm_ruHangUp :
    Calm (cancelBreak { s with request.offHook := false }) (ruHangUp s) := by
  unfold ruHangUp
  simp only
  split
  · exact .refl _
  · have during (r : Request) (u : State) : Calm u (hangUpDuring r u) :=
      .ite (calm_abandonRequest u r) (.ite (.refl u) (calm_setRecord u _))
    split
    · exact during _ _
    · exact during _ _
    · exact .refl _
    · exact calm_setRecord _ _

theorem calm_onRecord (f : Request → State → State) (h : ∀ r, Calm s (f r s)) :
    Calm s (onRecord f s) := by
  unfold onRecord
  split
  · exact h _
  · exact .refl s

/-! ## The Answer Unit -/

theorem calm_letGo (c : Call) : Calm s (letGo c s) := (calm_setSlot s _).trans (calm_withdraw _ _ _)

theorem calm_takeRing (x : Code) (k : CallClass) : Calm s (takeRing x k s) := by
  have into (c : Call) (sc : Script) (u : State) : Calm u (start .answerUnit sc (setSlot (some c) u)) :=
    (calm_setSlot u _).trans (calm_start _ _ _)
  have held := calm_queue s .answerUnit .hold x none
  exact .ite (held.trans (into _ _ _)) (.ite (held.trans (into _ _ _)) (held.trans (into _ _ _)))

theorem calm_trunkEndRing (x : Code) (k : CallClass) : Calm s (trunkEndRing x k s) := by
  have taken : Calm s (setSlot (some (answeredCall x k)) (queue .answerUnit .hold x none s)) :=
    (calm_queue s .answerUnit .hold x none).trans (calm_setSlot _ _)
  exact .ite (calm_queue s _ _ _ _) (.ite (taken.trans (calm_viewOwnClear _)) taken)

theorem calm_preempt (old : Call) (x : Code) : Calm s (preempt old x s) :=
  (((calm_withdraw s _ _).trans (calm_setSlot _ _)).trans (calm_start _ _ _)).trans
    (calm_queue _ _ _ _ _)

theorem calm_ringPastGlare (x : Code) (k : CallClass) : Calm s (ringPastGlare x k s) := by
  unfold ringPastGlare
  split
  · exact .ite (calm_preempt s _ x) (calm_queue s _ _ _ _)
  · unfold ringToEmpty
    split
    · exact calm_queue s _ _ _ _
    · exact .ite (calm_trunkEndRing s x k) (calm_takeRing s x k)

theorem calm_ringAgainstRecord (x : Code) (k : CallClass) : Calm s (ringAgainstRecord x k s) := by
  have past := calm_ringPastGlare s x k
  unfold ringAgainstRecord
  split
  · exact .ite (.ite (.ite (calm_queue s _ _ _ _)
      ((calm_yieldTo s x).trans (calm_ringPastGlare _ x k))) (calm_queue s _ _ _ _)) past
  · exact past

theorem calm_auPoll (x : Code) : Calm s (auPoll x s) := by
  have put (k : Kind) (arg : Option Code) (d : Option Call) :
      Calm s (setSlot d (queue .answerUnit k x arg s)) :=
    (calm_queue s .answerUnit k x arg).trans (calm_setSlot _ d)
  unfold auPoll
  split
  · refine .ite ?_ (calm_queue s _ _ _ _)
    unfold pollMatching
    split
    · exact put _ _ _
    · exact (put _ _ _).trans (calm_stopNow _ _ _)
    · exact put _ _ _
    · exact put _ _ _
  · exact calm_queue s _ _ _ _

theorem calm_auClear (x : Code) : Calm s (auClear x s) := by
  have sounding (c : Call) (u : State) : Calm u (clearSounding c u) := by
    unfold clearSounding
    split
    · exact calm_stopAtCycle u _ _
    · exact calm_stopNow u _ _
    · exact calm_start u _ _
    all_goals exact .refl u
  unfold auClear
  split
  · exact .ite ((calm_setSlot s _).trans ((sounding _ _).trans (calm_withdraw _ _ _))) (.refl s)
  · exact .refl s

theorem calm_auWord (w : LineWord) : Calm s (auWord w s) := by
  unfold auWord
  split
  · exact .ite (calm_auPoll s _) (calm_ringAgainstRecord s _ _)
  · exact calm_auPoll s _
  · exact calm_auClear s _
  all_goals exact .refl s

theorem calm_auRingerFree : Calm s (auRingerFree s) := by
  unfold auRingerFree
  split
  · exact .ite (calm_start s _ _) (.refl s)
  · exact .refl s

theorem calm_auHeldByOthers : Calm s (auHeldByOthers s) := by
  unfold auHeldByOthers
  split
  · exact .ite ((calm_setSlot s _).trans ((calm_stopAtCycle _ _ _).trans (calm_queue _ _ _ _ _)))
      (.refl s)
  · exact .refl s

/-- R114: an off-hook report beside the hook item. -/
theorem calm_auOffHook : Calm { s with answer.offHook := true } (auOffHook s) := by
  unfold auOffHook
  simp only
  split
  · exact calm_stopNow _ _ _
  · split
    · exact ((calm_setSlot _ _).trans (calm_stopNow _ _ _)).trans (calm_start _ _ _)
    · exact .refl _
    all_goals exact calm_stopNow _ _ _

/-- R113, R120: a HANG-UP beside the hook item. -/
theorem calm_auHangUp : Calm { s with answer.offHook := false } (auHangUp s) := by
  have cleared (c : Call) (u : State) :
      Calm u (setSlot none (queue .answerUnit .clear c.caller none u)) :=
    (calm_queue u _ _ _ _).trans (calm_setSlot _ _)
  unfold auHangUp
  simp only
  split
  · exact .refl _
  · split
    · exact (calm_setSlot _ _).trans (calm_start _ _ _)
    · exact cleared _ _
    · exact .ite (calm_letGo _ _) (cleared _ _)
    all_goals exact .refl _

theorem calm_onCall (f : Call → State → State) (h : ∀ c, Calm s (f c s)) : Calm s (onCall f s) := by
  unfold onCall
  split
  · exact h _
  · exact .refl s

/-! ## Events -/

theorem calm_takeEvent (e : Event) : Calm s (takeEvent e s) := by
  cases e with
  | sent o w =>
    cases o with
    | requestUnit => exact calm_ruSent s w
    | lineView => exact calm_viewNotice s w
    | answerUnit | dialDecoder => exact .refl s
  | abandoned o w c =>
    cases o with
    | requestUnit => exact calm_ruAbandoned s w
    | lineView => exact calm_viewNotice s w
    | answerUnit | dialDecoder => exact .refl s
  | lost a sc => exact .refl s
  | finish a sc =>
    cases a with
    | requestUnit => exact calm_ruFinish s sc
    | answerUnit | lineView | dialDecoder => exact .refl s
  | ringerFree => exact calm_auRingerFree s
  | heldByOthers a =>
    cases a with
    | answerUnit => exact calm_auHeldByOthers s
    | requestUnit => exact calm_ruHeldByOthers s
    | lineView | dialDecoder => exact .refl s

theorem calm_drain (n : Nat) : Calm s (drain n s) := by
  induction n generalizing s with
  | zero => exact calm_inbox s []
  | succ n ih =>
    unfold drain
    split
    · exact .refl s
    · exact (calm_inbox s _).trans ((calm_takeEvent _ _).trans (ih _))

theorem calm_finish : Calm s (finish s) := (calm_drain s _).trans (calm_followDial _)

/-! ## The steps that may stand due at a block end -/

section Due

variable {s} {due : State → Bool} {take : State → State}

theorem calm_whenDueFinish (h : Calm s (take s)) : Calm s (whenDueFinish due take s) :=
  .ite (h.trans (calm_finish _)) (.refl s)

end Due

theorem calm_settleLineIdle : Calm s (settleLineIdle s) := calm_whenDueFinish (calm_setView s _)

theorem calm_settleSlot : Calm s (settleSlot s) := by
  have hold (u : State) : Calm u (settleCompletionHold u) :=
    calm_whenDueFinish (calm_onCall u _ fun c => (calm_letGo u c).trans (calm_start _ _ _))
  have linger (u : State) : Calm u (settleLinger u) :=
    calm_whenDueFinish (calm_onCall u _ fun c => calm_letGo u c)
  have loss (u : State) : Calm u (settlePollLoss u) := by
    refine calm_whenDueFinish (calm_onCall u _ fun c => (calm_letGo u c).trans ?_)
    unfold lossSounding
    split
    · exact calm_stopAtCycle _ _ _
    · exact calm_stopNow _ _ _
    all_goals exact .refl _
  exact ((hold s).trans (linger _)).trans (loss _)

theorem calm_settleRecord : Calm s (settleRecord s) := by
  have ring (u : State) : Calm u (settleRingReply u) :=
    calm_whenDueFinish (calm_onRecord u _ fun r =>
      .ite ((calm_queue u _ _ _ _).trans (calm_setRecord _ _)) (calm_failRequest u _ _ _))
  have delay (u : State) : Calm u (settleDelay u) :=
    calm_whenDueFinish (calm_onRecord u _ fun r => (calm_queue u _ _ _ _).trans (calm_setRecord _ _))
  have poll (u : State) : Calm u (settlePollReply u) :=
    calm_whenDueFinish (calm_onRecord u _ fun r => calm_missedPoll u r)
  have revert (u : State) : Calm u (settleRevert u) :=
    calm_whenDueFinish (calm_onRecord u _ fun r => calm_failRequest u r _ _)
  have shown (u : State) : Calm u (settleShow u) := calm_whenDueFinish (calm_setRecord u _)
  exact ((((ring s).trans (delay _)).trans (poll _)).trans (revert _)).trans (shown _)

theorem calm_settleTrunkLapse : Calm s (settleTrunkLapse s) :=
  calm_whenDueFinish ((Calm.ite (calm_ruCancel s) (.refl s)).trans (calm_setTrunk _ _))

theorem calm_settleTest : Calm s (settleTest s) := by
  refine Calm.trans (calm_whenDueFinish ?_) (calm_setTrunk _ _)
  unfold takeOriginate
  split
  · exact (calm_setTrunk s _).trans (calm_ringFor _ _ _ _)
  · exact .refl s

theorem calm_trunkBlock : Calm s (trunkBlock s) := by
  have risen (u : State) : Calm u (takeRise u) :=
    .ite ((calm_wake u).trans (calm_setTrunk _ _))
      (((calm_wake u).trans (calm_setTrunk _ _)).trans (calm_of rfl rfl rfl rfl rfl rfl rfl rfl))
  have reading (u : State) : Calm u (if trunkLapseDue u then u else askTest (endOffer u)) :=
    .ite (.refl u) ((Calm.ite (calm_setTrunk u _) (.refl u)).trans (calm_setTrunk _ _))
  unfold trunkBlock
  simp only
  exact .ite (.ite (calm_setTrunk s _)
    (((calm_setTrunk s _).trans (.ite (risen _) (.refl _))).trans (reading _))) (.refl s)

end Sys2Proof.Machine
end

section
/-! The parts that the work of a block end changes, step by step, and what it leaves alone. -/

namespace Sys2Proof.Machine

variable (s : State)

/-! ## The receiver -/

/-- What a decision may change in the receiver, and by the word it completes. -/
def rxParts : List Part := .rx :: callParts

theorem call_in_rx : callParts ⊆ rxParts := by decide

theorem rx_receiver (r : Receiver) (c : Conditions) :
    OnlyParts rxParts s { s with rx := r, conds := c } := by
  intro p hp; cases p <;> first | rfl | simp [rxParts, callParts] at hp

theorem rx_breakWord : OnlyParts rxParts s (breakWord s) := by
  rw [breakWord_eq]; exact rx_receiver s _ _

theorem rx_completeWord (r : WordRecord) (check : Code) (o : DeliveryOrder) :
    OnlyParts rxParts s (completeWord r check o s) := by
  have removed : OnlyParts rxParts s (setWord none s) := rx_receiver s _ s.conds
  unfold completeWord
  split
  · exact only_of_ite (only_trans removed (only_mono call_in_rx (call_takeValidWord _ _ _ o)))
      (rx_receiver s _ _)
  · exact rx_receiver s _ _

theorem rx_placeSymbol (i : Nat) (o : DeliveryOrder) : OnlyParts rxParts s (placeSymbol i o s) := by
  unfold placeSymbol
  split
  · exact only_refl _ _
  · refine only_of_ite ?_ ?_
    · unfold placeCheck
      split
      · exact rx_completeWord s _ _ o
      · exact rx_breakWord s
    · split
      · exact rx_receiver s _ s.conds
      · exact rx_breakWord s

theorem rx_takePair (p : Pair) (inTx : Bool) : OnlyParts rxParts s (takePair p inTx s) := by
  have symbol (r : SymbolRecord) (u : State) : OnlyParts rxParts u (setSymbol r u) :=
    rx_receiver u _ u.conds
  have opened (own : Bool) (u : State) : OnlyParts rxParts u (openWord own u) :=
    only_trans (rx_breakWord u) (rx_receiver _ _ (breakWord u).conds)
  unfold takePair
  split
  · exact symbol _ s
  · refine only_of_ite ?_ (symbol _ s)
    unfold acceptSymbol
    exact only_of_ite (only_trans (symbol _ s) (opened _ _)) (symbol _ s)
  · exact only_of_ite (only_of_ite (only_refl _ _) (symbol _ s)) (only_trans (rx_breakWord s) (symbol _ _))

theorem rx_takeSilence (o : DeliveryOrder) : OnlyParts rxParts s (takeSilence o s) := by
  unfold takeSilence
  split
  · exact rx_receiver s _ s.conds
  · exact rx_receiver s _ s.conds
  · exact only_of_ite (rx_receiver s _ s.conds)
      (only_trans (rx_receiver s _ s.conds) (rx_placeSymbol _ _ o))

theorem rx_rxDecide (d : Decision) (inTx : Bool) (o : DeliveryOrder) :
    OnlyParts rxParts s (rxDecide d inTx o s) := by
  have fresh : OnlyParts rxParts s (setUnusable 0 (markOwn inTx s)) := rx_receiver s _ s.conds
  unfold rxDecide
  simp only
  split
  · exact only_trans fresh (rx_takePair _ _ inTx)
  · exact only_trans fresh (rx_takeSilence _ o)
  · exact only_trans fresh (rx_takeSilence _ o)
  · exact only_trans fresh (only_trans (rx_breakWord _) (rx_receiver _ _ _))
  · exact rx_receiver s _ s.conds

/-! ## The receiver's records depend on the receiver alone -/

section Congruence

variable {s t : State} (h : t.rx = s.rx)
include h

theorem breakWord_rx_congr : (breakWord t).rx = (breakWord s).rx := by
  rw [breakWord_eq, breakWord_eq, h]

theorem acceptSymbol_rx_congr (p : Pair) (own : Bool) :
    (acceptSymbol p own t).rx = (acceptSymbol p own s).rx := by
  by_cases attn : p = attnPair
  · rw [attn, acceptSymbol_attn, acceptSymbol_attn, h]
  · rw [acceptSymbol_other _ attn, acceptSymbol_other _ attn, h]

theorem takePair_rx_congr (p : Pair) (inTx : Bool) :
    (takePair p inTx t).rx = (takePair p inTx s).rx := by
  unfold takePair
  rw [h]
  split
  · simp only [setSymbol, h]
  · split
    · exact acceptSymbol_rx_congr h _ _
    · simp only [setSymbol, h]
  · split
    · unfold extendSymbol
      split
      · exact h
      · simp only [setSymbol, h]
    · simp only [setSymbol, breakWord_rx_congr h]

theorem takeSilence_rx_congr (o o' : DeliveryOrder) :
    (takeSilence o t).rx = (takeSilence o' s).rx := by
  unfold takeSilence
  rw [h]
  split
  · simp only [countSilent, setWord, setSymbol, h]
  · simp only [countSilent, setWord, setSymbol, h]
  · unfold closeSymbol
    simp only
    split
    · simp only [setSymbol, h]
    · rw [placeSymbol_rx, placeSymbol_rx]
      simp only [setSymbol, h]

theorem rxDecide_rx_congr (d : Decision) (inTx : Bool) (o : DeliveryOrder) :
    (rxDecide d inTx o t).rx = (rxDecide d inTx o s).rx := by
  have fresh : (setUnusable 0 (markOwn inTx t)).rx = (setUnusable 0 (markOwn inTx s)).rx := by
    simp only [setUnusable, markOwn, h]
  unfold rxDecide
  simp only
  split
  · exact takePair_rx_congr fresh _ _
  · exact takeSilence_rx_congr fresh _ _
  · exact takeSilence_rx_congr fresh _ _
  · simp only [setSymbol, breakWord_rx_congr fresh]
  · simp only [setUnusable, markOwn, h]

end Congruence

/-! ## What a decision leaves alone -/

theorem calm_receiver (r : Receiver) : Calm s { s with rx := r } :=
  calm_of rfl rfl rfl rfl rfl rfl rfl rfl

theorem calm_breakWord : Calm s (breakWord s) := by
  rw [breakWord_eq]
  exact calm_of rfl rfl rfl rfl rfl rfl rfl rfl

theorem calm_takePair (p : Pair) (inTx : Bool) : Calm s (takePair p inTx s) := by
  have symbol (r : SymbolRecord) (u : State) : Calm u (setSymbol r u) := calm_receiver u _
  unfold takePair
  split
  · exact symbol _ s
  · exact .ite (.ite ((symbol _ s).trans ((calm_breakWord _).trans (calm_receiver _ _))) (symbol _ s))
      (symbol _ s)
  · exact .ite (.ite (.refl s) (symbol _ s)) ((calm_breakWord s).trans (symbol _ _))

theorem heard_inOrder (o : DeliveryOrder) {f g h : State → State} (hf : ∀ u, Heard u (f u))
    (hg : ∀ u, Heard u (g u)) (hh : ∀ u, Heard u (h u)) : Heard s (inOrder o f g h s) := by
  cases o
  · exact ((hf s).trans (hg _)).trans (hh _)
  · exact ((hf s).trans (hh _)).trans (hg _)
  · exact ((hg s).trans (hf _)).trans (hh _)
  · exact ((hg s).trans (hh _)).trans (hf _)
  · exact ((hh s).trans (hf _)).trans (hg _)
  · exact ((hh s).trans (hg _)).trans (hf _)

theorem heard_takeValidWord (own : Bool) (w : LineWord) (o : DeliveryOrder) :
    Heard s (takeValidWord own w o s) := by
  have clash : Calm s (setClash s) := calm_of rfl rfl rfl rfl rfl rfl rfl rfl
  have noted : Heard s (if isClash own w s then setClash s else s) := .ite clash.toHeard (.refl s)
  have mine (b : Bool) {f : State → State} (hf : ∀ u, Calm u (f u)) (u : State) :
      Heard u (onlyIf b f u) := .ite (hf u).toHeard (.refl u)
  exact .ite (noted.trans (heard_inOrder _ o (heard_viewWord · own w)
    (mine _ (calm_auWord · w)) (mine _ (calm_ruWord · w)))) noted

theorem heard_placeSymbol (i : Nat) (o : DeliveryOrder) : Heard s (placeSymbol i o s) := by
  have broken (u : State) : Calm u (setBrokenWord u) := calm_of rfl rfl rfl rfl rfl rfl rfl rfl
  have flagged (u : State) : Heard u (setBrokenWord u) := (broken u).toHeard
  have word (r : Option WordRecord) (u : State) : Heard u (setWord r u) := (calm_receiver u _).toHeard
  unfold placeSymbol
  split
  · exact .refl s
  · refine .ite ?_ ?_
    · unfold placeCheck
      split
      · unfold completeWord
        split
        · exact .ite ((word none s).trans (heard_takeValidWord _ _ _ o)) ((word none s).trans (flagged _))
        · exact (word none s).trans (flagged _)
      · exact (calm_breakWord s).toHeard
    · split
      · exact word _ s
      · exact (calm_breakWord s).toHeard

theorem calm_closeSymbol (word : s.rx.word = none) (p : Pair) (void : Bool) (o : DeliveryOrder) :
    Calm s (closeSymbol p void o s) := by
  have placed : placeSymbol p.index o (setSymbol .idle s) = setSymbol .idle s :=
    placeSymbol_none o word
  have closed : Calm s (setSymbol .idle s) := calm_receiver s _
  exact .ite closed (placed.symm ▸ closed)

theorem heard_closeSymbol (p : Pair) (void : Bool) (o : DeliveryOrder) :
    Heard s (closeSymbol p void o s) := by
  have closed : Heard s (setSymbol .idle s) := (calm_receiver s _).toHeard
  exact .ite closed (closed.trans (heard_placeSymbol _ _ o))

theorem heard_rxDecide (d : Decision) (inTx : Bool) (o : DeliveryOrder) :
    Heard s (rxDecide d inTx o s) := by
  have fresh : Heard s (setUnusable 0 (markOwn inTx s)) := (calm_receiver s _).toHeard
  have silence (u : State) : Heard u (takeSilence o u) := by
    unfold takeSilence
    split
    · exact (calm_receiver u _).toHeard
    · exact (calm_receiver u _).toHeard
    · exact heard_closeSymbol u _ _ o
  unfold rxDecide
  simp only
  split
  · exact fresh.trans (calm_takePair _ _ inTx).toHeard
  · exact fresh.trans (silence _)
  · exact fresh.trans (silence _)
  · exact fresh.trans ((calm_breakWord _).trans (calm_receiver _ _)).toHeard
  · exact (calm_receiver s _).toHeard

/-- With no word in assembly a decision completes none, and the idle count stays. -/
theorem calm_rxDecide (word : s.rx.word = none) (d : Decision) (inTx : Bool) (o : DeliveryOrder) :
    Calm s (rxDecide d inTx o s) := by
  have fresh : Calm s (setUnusable 0 (markOwn inTx s)) := calm_receiver s _
  have silence : Calm s (takeSilence o (setUnusable 0 (markOwn inTx s))) := by
    have none_left : (setUnusable 0 (markOwn inTx s)).rx.word = none := by
      simp [setUnusable, markOwn, word]
    refine fresh.trans ?_
    unfold takeSilence
    split
    · exact calm_receiver _ _
    · exact calm_receiver _ _
    · exact calm_closeSymbol _ none_left _ _ o
  unfold rxDecide
  simp only
  split
  · exact fresh.trans (calm_takePair _ _ inTx)
  · exact silence
  · exact silence
  · exact fresh.trans ((calm_breakWord _).trans (calm_receiver _ _))
  · exact calm_receiver s _

/-! ## The transmitter -/

/-- Moves of the transmitter, the line voices, the lanes' notices and SEND-ABANDONED. -/
structure Sends (s t : State) : Prop where
  parts : OnlyParts callParts s t
  calm : Calm s t

theorem Sends.trans {s t u : State} (h₁ : Sends s t) (h₂ : Sends t u) : Sends s u :=
  ⟨only_trans h₁.parts h₂.parts, h₁.calm.trans h₂.calm⟩

variable {s} in
theorem Sends.ite {t u : State} {c : Prop} [Decidable c] (h₁ : Sends s t) (h₂ : Sends s u) :
    Sends s (if c then t else u) := by
  split <;> assumption

theorem Sends.refl : Sends s s := ⟨only_refl _ s, .refl s⟩

theorem sends_of (x : Transmitter) (v0 v1 : LineVoice) (b : Bool) (es : List Event) :
    Sends s { s with
      tx := x
      engine := { s.engine with v0 := v0, v1 := v1 }
      conds := { s.conds with sendAbandoned := b }
      inbox := es } :=
  ⟨fun p hp => by cases p <;> first | rfl | simp [callParts] at hp,
    calm_of rfl rfl rfl rfl rfl rfl rfl rfl⟩

theorem sends_tx (x : Transmitter) : Sends s { s with tx := x } :=
  sends_of s x s.engine.v0 s.engine.v1 s.conds.sendAbandoned s.inbox

theorem sends_emit (e : Event) : Sends s (emit e s) :=
  sends_of s s.tx s.engine.v0 s.engine.v1 s.conds.sendAbandoned _

theorem sends_lineStop : Sends s (lineStop s) :=
  .ite (sends_of s s.tx _ _ s.conds.sendAbandoned s.inbox) (.refl s)

theorem sends_boundaryCommand (w : LineWord) (pos : Nat) : Sends s (boundaryCommand w pos s) :=
  .ite (.ite (sends_of s s.tx _ _ s.conds.sendAbandoned s.inbox) (.refl s))
    (.ite (sends_lineStop s) (.refl s))

theorem sends_spoil (l : Lane) (e : Entry) (rest : List Entry) : Sends s (spoil l e rest s) := by
  have stopped : Sends s (lineStop { s with tx.attempt := none }) :=
    (sends_tx s _).trans (sends_lineStop _)
  have marked (u : State) : Sends u (markForRetry l e rest u) := by
    unfold markForRetry
    simp only
    split
    · refine Sends.trans ?_ (sends_tx _ _)
      exact (sends_tx u _).trans (.ite (.refl _) (sends_emit _ _))
    · exact (sends_tx u _).trans (sends_tx _ _)
  have given (u : State) : Sends u (giveUp l e rest u) :=
    (sends_of u _ u.engine.v0 u.engine.v1 true u.inbox).trans (sends_emit _ _)
  exact .ite (stopped.trans (marked _)) (stopped.trans (given _))

theorem sends_txDecide (d : Decision) : Sends s (txDecide d s) := by
  unfold txDecide
  split
  · unfold txAttemptDecide
    simp only
    split
    · exact sends_tx s _
    · exact .ite ((sends_tx s _).trans (sends_spoil _ _ _ _))
        (.ite ((sends_tx s _).trans (sends_boundaryCommand _ _ _))
          ((sends_tx s _).trans (sends_emit _ _)))
  · have waiting (u : State) : Sends u (applyWaiting u) :=
      .ite (.ite (sends_tx u _) (sends_tx u _)) (.refl u)
    exact .ite ((sends_tx s _).trans (waiting _)) ((sends_tx s _).trans (sends_tx _ _))

/-! ## The steps taken before and after the decision -/

theorem call_whenDueFinish (due : State → Bool) (take : State → State)
    (h : OnlyParts callParts s (take s)) : OnlyParts callParts s (whenDueFinish due take s) :=
  only_of_ite (only_trans h (call_finish _)) (only_refl _ _)

theorem call_settleLineIdle : OnlyParts callParts s (settleLineIdle s) :=
  call_whenDueFinish s _ _ (only_mono view_in_call (view_setView s _))

theorem call_settleSlot : OnlyParts callParts s (settleSlot s) :=
  only_trans (only_trans
    (call_whenDueFinish s _ _ (only_mono answer_in_call (answer_takeCompletionHold s)))
    (call_whenDueFinish _ _ _ (only_mono answer_in_call (answer_takeLinger _))))
    (call_whenDueFinish _ _ _ (only_mono answer_in_call (answer_takePollLoss _)))

theorem call_settleRecord : OnlyParts callParts s (settleRecord s) :=
  only_trans (call_whenDueFinish s _ _ (only_mono request_in_call (request_takeRingReply s)))
    (only_trans (call_whenDueFinish _ _ _ (only_mono request_in_call (request_takeDelay _)))
      (only_trans (call_whenDueFinish _ _ _ (only_mono request_in_call (request_takePollReply _)))
        (only_trans (call_whenDueFinish _ _ _ (only_mono request_in_call (request_takeRevert _)))
          (call_whenDueFinish _ _ _ (only_mono request_in_call (request_takeShow _))))))

/-- What the Trunk Interface's steps may change, a rise's wake apart. -/
def trunkParts : List Part := .trunk :: callParts

theorem call_in_trunk : callParts ⊆ trunkParts := by decide

theorem trunk_setTrunk (t : TrunkInterface) : OnlyParts trunkParts s (setTrunk t s) := by
  intro p hp; cases p <;> first | rfl | simp [trunkParts, callParts] at hp

theorem trunk_settleTrunkLapse : OnlyParts trunkParts s (settleTrunkLapse s) := by
  have cancelled : OnlyParts trunkParts s (if s.trunk.incoming = .offered then ruCancel s else s) :=
    only_of_ite (only_mono (by decide) (request_ruCancel s)) (only_refl _ _)
  exact only_of_ite (only_trans (only_trans cancelled (trunk_setTrunk _ _))
    (only_mono call_in_trunk (call_finish _))) (only_refl _ _)

theorem trunk_settleTest : OnlyParts trunkParts s (settleTest s) := by
  have offered : OnlyParts trunkParts s (takeOriginate s) := by
    unfold takeOriginate
    split
    · exact only_trans (trunk_setTrunk s _) (only_mono (by decide) (request_ruOriginate _ _))
    · exact only_refl _ _
  exact only_trans (only_of_ite (only_trans offered (only_mono call_in_trunk (call_finish _)))
    (only_refl _ _)) (trunk_setTrunk _ _)

/-- The reading of TRUNK_RING may besides wake the station. -/
theorem doze_trunkBlock : OnlyParts (.doze :: trunkParts) s (trunkBlock s) := by
  have risen (u : State) : OnlyParts (.doze :: trunkParts) u (takeRise u) := by
    intro p hp
    unfold takeRise wake
    cases p <;> first | (simp [trunkParts, callParts] at hp; done) | (simp only; split_ifs <;> rfl)
  have set (u : State) (t : TrunkInterface) : OnlyParts (.doze :: trunkParts) u (setTrunk t u) :=
    only_mono (by decide) (trunk_setTrunk u t)
  have reading (u : State) :
      OnlyParts (.doze :: trunkParts) u (if trunkLapseDue u then u else askTest (endOffer u)) :=
    only_of_ite (only_refl _ _) (only_trans (only_of_ite (set u _) (only_refl _ _)) (set _ _))
  unfold trunkBlock
  simp only
  exact only_of_ite (only_of_ite (set s _)
    (only_trans (only_trans (set s _) (only_of_ite (risen _) (only_refl _ _))) (reading _)))
    (only_refl _ _)

theorem trunk_lineTimers : OnlyParts callParts s (lineTimers s) := by
  intro p hp; cases p <;> first | rfl | simp [callParts] at hp

theorem view_reading (loaded : Bool) : OnlyParts callParts s (viewReading loaded s) := by
  intro p hp; cases p <;> first | rfl | simp [callParts] at hp

end Sys2Proof.Machine
end

section
/-! The block end: its work step by step, and the doze test that ends it. -/

namespace Sys2Proof.Machine

variable (s : State)

/-! ## Doze -/

/-- R167: the doze flag and count after a wake cause. -/
def woken (d : Doze) : Doze := if d.dozing = true ∨ d.count = 100 then ⟨false, 0⟩ else d

theorem wake_doze_eq : (wake s).doze = woken s.doze := wake_doze

theorem woken_woken (d : Doze) : woken (woken d) = woken d := by
  by_cases h : d.dozing = true ∨ d.count = 100 <;> simp [woken, h]

theorem woken_awake {d : Doze} (awake : d.dozing = false) (low : d.count ≠ 100) : woken d = d :=
  if_neg (by simp [awake, low])

theorem woken_dozing {d : Doze} (h : d.dozing = true) : woken d = ⟨false, 0⟩ := if_pos (.inl h)

theorem settleReplies_doze : (settleReplies s).doze = s.doze := by
  have erase (u : State) : (settleErase u).doze = u.doze := by
    unfold settleErase whenDue takeEraseComplete
    split
    · split <;> rfl
    · rfl
  have write (u : State) : (settleWrite u).doze = u.doze := by
    unfold settleWrite whenDue takeWriteComplete
    split
    · split <;> rfl
    · rfl
  have start (u : State) : (settleReplyStart u).doze = u.doze := by
    unfold settleReplyStart whenDue takeReplyStart
    split
    · split <;> rfl
    · rfl
  rw [settleReplies, start, settleStore, write, erase]

/-- R166: a doze entry that stands due has been taken. -/
theorem settleDozeEntry_notDue : dozeEntryDue (settleDozeEntry s) = false := by
  unfold settleDozeEntry whenDue
  split
  · simp [dozeEntryDue, takeDozeEntry]
  · next h => exact Bool.eq_false_iff.mpr h

variable {s} in
/-- With nothing due no doze entry is due. -/
theorem count_ne_of_nothingDue (h : NothingDue s) (awake : s.doze.dozing = false) :
    s.doze.count ≠ 100 := by
  intro full
  obtain ⟨settled, -⟩ := h
  have doze : (settleDozeEntry (settleTransmitter (settleCalls (settleReceiver
      (settleLocal (settleLink s)))))).doze = s.doze :=
    (settleReplies_doze _).symm.trans (congrArg State.doze settled)
  have notDue := settleDozeEntry_notDue (settleTransmitter (settleCalls (settleReceiver
    (settleLocal (settleLink s)))))
  rw [dozeEntryDue, doze, awake, full] at notDue
  exact absurd notDue (by decide)

/-- R166: the eight conditions. -/
theorem dozeConditions_iff :
    dozeConditions s = true ↔ s.settings ≠ none ∧ s.link.setupMode = false ∧
      (ownCode s = some 15 ∨ s.dial.hook = .onHook ∧ s.dial.period = 80) ∧
      s.answer.slot = none ∧ (s.request.record = none ∧ s.request.pendingBreak = none) ∧
      (s.tx.prompt = [] ∧ s.tx.request = [] ∧ s.tx.backOff = 0) ∧
      (s.engine.ear.script = none ∧ s.engine.bell.script = none) ∧
      (s.rx.symbol = .idle ∧ s.rx.word = none) ∧ (ownCode s = some 15 → 300 ≤ s.trunk.silence) := by
  have active : isActive s = true ↔ s.settings ≠ none := Option.isSome_iff_ne_none
  have trunk : dozeTrunk s = true ↔ (ownCode s = some 15 → 300 ≤ s.trunk.silence) := by
    by_cases h : ownCode s = some 15 <;> simp [dozeTrunk, isTrunkEnd, trunkPresent, h]
  simp [dozeConditions, inService, active, dozeHook, isTrunkEnd, slotEmpty, requestClear, recordNone,
    dozeTransmitter, Transmitter.hasEntry, voicesIdle, receiverIdle, trunk, and_assoc]

/-! ## The Trunk Interface's wake -/

/-- R149, R150: TRUNK_RING rises at the trunk-end in service. -/
def TrunkRises (s : State) : Prop :=
  isTrunkEnd s = true ∧ s.link.setupMode = false ∧ 300 ≤ s.trunk.silence ∧ s.pins.trunkRing = true

theorem reading_doze : (if trunkLapseDue s then s else askTest (endOffer s)).doze = s.doze := by
  split
  · rfl
  · unfold endOffer
    split <;> rfl

theorem trunkBlock_doze_rise (h : TrunkRises s) : (trunkBlock s).doze = woken s.doze := by
  obtain ⟨trunkEnd, mode, absent, ring⟩ := h
  rw [trunkBlock_rise trunkEnd mode absent ring]
  exact takeRise_doze.trans (wake_doze_eq (readRing s))

theorem trunkBlock_doze_still (h : ¬TrunkRises s) : (trunkBlock s).doze = s.doze := by
  unfold trunkBlock
  simp only
  split
  next trunkEnd =>
    split
    · rfl
    next mode =>
      have noRise : ¬(!trunkPresent s && trunkPresent (readRing s)) = true := by
        intro both
        obtain ⟨was, is⟩ := Bool.and_eq_true_iff.mp both
        have absent : 300 ≤ s.trunk.silence := by simpa [trunkPresent] using was
        have low : movedSilence s.trunk.silence s.pins.trunkRing < 300 := of_decide_eq_true is
        unfold movedSilence at low
        split at low
        next ring => exact h ⟨trunkEnd, Bool.eq_false_iff.mpr mode, absent, ring⟩
        next => omega
      rw [if_neg noRise]
      exact reading_doze (readRing s)
  next => rfl

variable {s} in
theorem trunkRises_congr {t : State} (settings : t.settings = s.settings) (link : t.link = s.link)
    (trunk : t.trunk = s.trunk) (pins : t.pins = s.pins) : TrunkRises t ↔ TrunkRises s := by
  rw [TrunkRises, TrunkRises, isTrunkEnd, isTrunkEnd, ownCode_congr settings, link, trunk, pins]

/-! ## Before and after the decision -/

/-- What the steps before the decision may change. -/
def beforeParts : List Part := .doze :: trunkParts

theorem only_onlyIf {ps : List Part} (b : Bool) {f : State → State} (h : ∀ u, OnlyParts ps u (f u)) :
    OnlyParts ps s (onlyIf b f s) := only_of_ite (h s) (only_refl _ _)

theorem calm_onlyIf (b : Bool) {f : State → State} (h : ∀ u, Calm u (f u)) :
    Calm s (onlyIf b f s) := .ite (h s) (.refl s)

theorem onlyIf_true (f : State → State) : onlyIf true f s = f s := rfl

theorem onlyIf_false (f : State → State) : onlyIf false f s = s := rfl

theorem call_idleNow : OnlyParts callParts s (idleNow s) :=
  only_trans (view_reading s _) (call_settleLineIdle _)

/-- The steps before the Trunk Interface's reading. -/
def expiriesFirst (o : EndOrder) (s : State) : State :=
  onlyIf o.recordFirst settleRecord (onlyIf o.slotFirst settleSlot (onlyIf o.idleFirst idleNow s))

theorem call_expiriesFirst (o : EndOrder) : OnlyParts callParts s (expiriesFirst o s) :=
  only_trans (only_trans (only_onlyIf s _ call_idleNow) (only_onlyIf _ _ call_settleSlot))
    (only_onlyIf _ _ call_settleRecord)

theorem parts_trunkNow : OnlyParts beforeParts s (trunkNow s) :=
  only_trans (doze_trunkBlock s) (only_trans (only_mono (by decide) (trunk_settleTrunkLapse _))
    (only_mono (by decide) (trunk_settleTest _)))

theorem parts_beforeDecision (o : EndOrder) : OnlyParts beforeParts s (beforeDecision o s) :=
  only_trans (only_mono (by decide) (call_expiriesFirst s o)) (only_onlyIf _ _ parts_trunkNow)

theorem calm_trunkNow : Calm s (trunkNow s) :=
  (calm_trunkBlock s).trans ((calm_settleTrunkLapse _).trans (calm_settleTest _))

theorem trunkNow_doze : (trunkNow s).doze = (trunkBlock s).doze :=
  (trunk_settleTest _ .doze (by decide)).trans (trunk_settleTrunkLapse _ .doze (by decide))

theorem calm_beforeDecision (o : EndOrder) :
    Calm (onlyIf o.idleFirst (fun u => viewReading u.pins.lineLoaded u) s) (beforeDecision o s) := by
  have idle : Calm (onlyIf o.idleFirst (fun u => viewReading u.pins.lineLoaded u) s)
      (onlyIf o.idleFirst idleNow s) := by
    cases o.idleFirst
    · exact .refl s
    · exact calm_settleLineIdle _
  exact ((idle.trans (calm_onlyIf _ _ calm_settleSlot)).trans (calm_onlyIf _ _ calm_settleRecord)).trans
    (calm_onlyIf _ _ calm_trunkNow)

theorem calm_afterDecision (o : EndOrder) :
    Calm (onlyIf (!o.idleFirst) (fun u => viewReading u.pins.lineLoaded u) s) (afterDecision o s) :=
  calm_onlyIf _ _ calm_trunkBlock

theorem parts_afterDecision (o : EndOrder) : OnlyParts beforeParts s (afterDecision o s) :=
  only_trans (only_mono (by decide) (only_onlyIf s _ fun u => view_reading u u.pins.lineLoaded))
    (only_onlyIf _ _ doze_trunkBlock)

theorem beforeDecision_doze (o : EndOrder) :
    (o.trunkFirst = true ∧ TrunkRises s → (beforeDecision o s).doze = woken s.doze) ∧
      (¬(o.trunkFirst = true ∧ TrunkRises s) → (beforeDecision o s).doze = s.doze) := by
  have first := call_expiriesFirst s o
  have doze : (expiriesFirst o s).doze = s.doze := first .doze (by decide)
  have same : TrunkRises (expiriesFirst o s) ↔ TrunkRises s :=
    trunkRises_congr (first .settings (by decide)) (first .link (by decide)) (first .trunk (by decide))
      (first .pins (by decide))
  have shape : beforeDecision o s = onlyIf o.trunkFirst trunkNow (expiriesFirst o s) := rfl
  rw [shape, ← doze, ← same]
  cases o.trunkFirst with
  | false => simp [onlyIf_false]
  | true =>
    simp only [true_and, onlyIf_true, trunkNow_doze]
    exact ⟨trunkBlock_doze_rise _, trunkBlock_doze_still _⟩

theorem afterDecision_doze (o : EndOrder) :
    (o.trunkFirst = false ∧ TrunkRises s → (afterDecision o s).doze = woken s.doze) ∧
      (¬(o.trunkFirst = false ∧ TrunkRises s) → (afterDecision o s).doze = s.doze) := by
  have shape : afterDecision o s = onlyIf (!o.trunkFirst) trunkBlock
      (onlyIf (!o.idleFirst) idleLater s) := rfl
  have read : OnlyParts callParts s (onlyIf (!o.idleFirst) idleLater s) :=
    only_onlyIf s _ fun u => view_reading u u.pins.lineLoaded
  have doze : (onlyIf (!o.idleFirst) idleLater s).doze = s.doze := read .doze (by decide)
  have same : TrunkRises (onlyIf (!o.idleFirst) idleLater s) ↔ TrunkRises s :=
    trunkRises_congr (read .settings (by decide)) (read .link (by decide)) (read .trunk (by decide))
      (read .pins (by decide))
  rw [shape, ← doze, ← same]
  cases o.trunkFirst with
  | true => simp [onlyIf_false]
  | false =>
    simp only [true_and, Bool.not_false, onlyIf_true]
    exact ⟨trunkBlock_doze_rise _, trunkBlock_doze_still _⟩

/-! ## The decision -/

theorem noteOverdrive_eq :
    noteOverdrive s =
      { s with conds := { s.conds with
          overdrive := s.conds.overdrive || decide (4 ≤ s.det.clips) } } := by
  unfold noteOverdrive
  split
  next clipped => simp [clipped]
  next clean => simp [clean]

theorem rx_receive (d : Decision) (inTx : Bool) (o : EndOrder) :
    OnlyParts rxParts s (receive d inTx o s) :=
  only_trans (rx_rxDecide s d inTx _) (only_mono call_in_rx (call_finish _))

theorem call_transmit (d : Decision) : OnlyParts callParts s (transmit d s) :=
  only_trans (sends_txDecide s d).parts (call_finish _)

theorem rx_handOn (d : Decision) (inTx : Bool) (o : EndOrder) :
    OnlyParts rxParts s (handOn d inTx o s) :=
  only_of_ite (only_trans (only_mono call_in_rx (call_transmit s d)) (rx_receive _ d inTx o))
    (only_trans (rx_receive s d inTx o) (only_mono call_in_rx (call_transmit _ d)))

theorem receive_rx (d : Decision) (inTx : Bool) (o : EndOrder) :
    (receive d inTx o s).rx = (rxDecide d inTx o.delivery s).rx := call_finish _ .rx (by decide)

/-- R29: the receiver's records are those of the decision, in either order. -/
theorem handOn_rx (d : Decision) (inTx : Bool) (o : EndOrder) :
    (handOn d inTx o s).rx = (rxDecide d inTx o.delivery s).rx := by
  have sent (u : State) : (transmit d u).rx = u.rx := call_transmit u d .rx (by decide)
  unfold handOn
  split
  · rw [receive_rx, rxDecide_rx_congr (sent s)]
  · rw [sent, receive_rx]

theorem heard_handOn (d : Decision) (inTx : Bool) (o : EndOrder) : Heard s (handOn d inTx o s) := by
  have received (u : State) : Heard u (receive d inTx o u) :=
    (heard_rxDecide u d inTx _).trans (calm_finish _).toHeard
  have sent (u : State) : Heard u (transmit d u) :=
    ((sends_txDecide u d).calm.trans (calm_finish _)).toHeard
  exact .ite ((sent s).trans (received _)) ((received s).trans (sent _))

theorem calm_handOn (word : s.rx.word = none) (d : Decision) (inTx : Bool) (o : EndOrder) :
    Calm s (handOn d inTx o s) := by
  have received (u : State) (h : u.rx.word = none) : Calm u (receive d inTx o u) :=
    (calm_rxDecide u h d inTx _).trans (calm_finish _)
  have sent (u : State) : Calm u (transmit d u) := (sends_txDecide u d).calm.trans (calm_finish _)
  have still : (transmit d s).rx = s.rx := call_transmit s d .rx (by decide)
  exact .ite ((sent s).trans (received _ (still ▸ word))) ((received s word).trans (sent _))

theorem decisionOf_congr {t : State} (det : t.det = s.det) (settings : t.settings = s.settings) :
    decisionOf t = decisionOf s := by
  simp only [decisionOf, thresholdOf, lenientOf, sensitivityOf, det, settings]

/-- The state that the receiver and the transmitter find, the floor moved. -/
def measured (s : State) : State := moveF (decisionOf s) (noteOverdrive s)

theorem measured_eq :
    measured s =
      { s with
        conds := { s.conds with overdrive := s.conds.overdrive || decide (4 ≤ s.det.clips) }
        det := { s.det with floor := floorAfter s.det.floor (5 * s.det.sumSq / 4096) (decisionOf s) } } := by
  rw [measured, noteOverdrive_eq]
  rfl

theorem decideBlock_full (h : s.det.mode = .full) (inTx : Bool) (o : EndOrder) :
    decideBlock inTx o s = handOn (decisionOf s) inTx o (measured s) := by
  simp only [decideBlock, h]
  rfl

/-- R32: the attention test on the block that has ended. -/
theorem attentionPassed_iff :
    attentionPassed s = true ↔
      ¬(4 ≤ s.det.clips ∧ lenientOf s = false) ∧
        s.det.floor * (12 - sensitivityOf s) / 2 ≤ 5 * s.det.sumSq / 4096 ∧
        bandEnergy 24062 s.det.filters.t2 ≤ 4 * bandEnergy 0 s.det.filters.t6 ∧
        bandEnergy 0 s.det.filters.t6 ≤ 4 * bandEnergy 24062 s.det.filters.t2 ∧
        3 * (5 * s.det.sumSq / 4096) ≤
          4 * (bandEnergy 24062 s.det.filters.t2 + bandEnergy 0 s.det.filters.t6) := by
  have clips : (!(decide (4 ≤ s.det.clips) && !lenientOf s)) = true ↔
      ¬(4 ≤ s.det.clips ∧ lenientOf s = false) := by
    cases lenientOf s <;> simp
  simp only [attentionPassed, attentionTest, Bool.and_eq_true, decide_eq_true_eq, clips, and_assoc]
  rfl

/-! ## The block's work -/

/-- The state after the block's steps, before the doze test. -/
def blockDecided (o : EndOrder) (p : State) : State :=
  finish (afterDecision o (decideBlock (blockInTx p) o (beforeDecision o (lineTimers p))))

theorem blockWork_eq (o : EndOrder) (p : State) :
    blockWork o p = newBlock (onlyIf (!p.doze.dozing) dozeTest (blockDecided o p)) := rfl

theorem exec_blockEnd_of_nothingDue {loaded ring : Bool} {code : Code} {o : EndOrder}
    (powered : s.powered = true) (due : NothingDue s) (pos : 160 ≤ s.frame.pos) :
    exec (.blockEnd loaded ring code o) s = .next (blockWork o (presentLine loaded ring code s)) :=
  (act_of_powered powered (takeBlockEnd loaded ring code o)).trans
    (congrArg _ (takeBlockEnd_of_nothingDue s loaded ring code o due pos))

/-- The steps before the decision. -/
def atDecision (o : EndOrder) (p : State) : State := beforeDecision o (lineTimers p)

theorem parts_atDecision (o : EndOrder) (p : State) : OnlyParts beforeParts p (atDecision o p) :=
  only_trans (only_mono (by decide) (trunk_lineTimers p)) (parts_beforeDecision _ o)

theorem atDecision_det (o : EndOrder) (p : State) : (atDecision o p).det = p.det :=
  parts_atDecision o p .det (by decide)

/-- R14 to R29: the state after a full-rate block's steps. -/
theorem blockDecided_full (o : EndOrder) (p : State) (h : p.det.mode = .full) :
    blockDecided o p = finish (afterDecision o (handOn (decisionOf (atDecision o p)) (blockInTx p) o
      (measured (atDecision o p)))) := by
  have mode : (atDecision o p).det.mode = .full := by rw [atDecision_det, h]
  exact congrArg (fun u => finish (afterDecision o u)) (decideBlock_full _ mode _ o)

end Sys2Proof.Machine
end

section
/-! What the work of a block end leaves in each part, at full rate and in doze. -/

namespace Sys2Proof.Machine

/-- What the steps of a block end may change before the doze test and the new block. -/
def blockParts : List Part := .det :: .rx :: beforeParts

variable (o : EndOrder) (p : State)

/-! ## At full rate -/

theorem parts_measured (s : State) : OnlyParts [.det, .conds] s (measured s) := by
  rw [measured_eq]
  intro q hq; cases q <;> first | rfl | simp at hq

theorem atDecision_settings : (atDecision o p).settings = p.settings :=
  parts_atDecision o p .settings (by decide)

theorem decisionOf_atDecision : decisionOf (atDecision o p) = decisionOf p :=
  decisionOf_congr _ (atDecision_det o p) (atDecision_settings o p)

/-- The state that the receiver and the transmitter leave. -/
def handed : State :=
  handOn (decisionOf p) (blockInTx p) o (measured (atDecision o p))

theorem parts_handed : OnlyParts blockParts p (handed o p) :=
  only_trans (only_mono (by decide) (parts_atDecision o p))
    (only_trans (only_mono (by decide) (parts_measured _)) (only_mono (by decide) (rx_handOn _ _ _ o)))

theorem handed_det :
    (handed o p).det =
      { p.det with floor := floorAfter p.det.floor (5 * p.det.sumSq / 4096) (decisionOf p) } := by
  have kept : (handed o p).det = (measured (atDecision o p)).det :=
    rx_handOn _ _ _ o .det (by decide)
  rw [kept, measured_eq, atDecision_det, decisionOf_atDecision]

theorem atDecision_overdrive : (atDecision o p).conds.overdrive = p.conds.overdrive := by
  refine (calm_beforeDecision (lineTimers p) o).overdrive.trans ?_
  cases o.idleFirst <;> rfl

theorem handed_overdrive :
    (handed o p).conds.overdrive = (p.conds.overdrive || decide (4 ≤ p.det.clips)) := by
  rw [handed, (heard_handOn _ _ _ o).overdrive, measured_eq, atDecision_det, atDecision_overdrive]

theorem handed_rx : (handed o p).rx = (rxDecide (decisionOf p) (blockInTx p) o.delivery p).rx := by
  have kept : (measured (atDecision o p)).rx = p.rx :=
    (parts_measured _ .rx (by decide)).trans (parts_atDecision o p .rx (by decide))
  rw [handed, handOn_rx, rxDecide_rx_congr kept]

theorem calm_measured (s : State) : (measured s).view = s.view := parts_measured s .view (by decide)

/-- R95: the idle count that a reading moves to. -/
def movedIdle (loaded : Bool) (n : Nat) : Nat := if loaded then 0 else min 50 (n + 1)

theorem atDecision_idle :
    (atDecision o p).view.idle =
      if o.idleFirst then movedIdle p.pins.lineLoaded p.view.idle else p.view.idle := by
  refine (calm_beforeDecision (lineTimers p) o).sameIdle.trans ?_
  cases o.idleFirst <;> rfl

theorem afterDecision_idle (s : State) :
    (afterDecision o s).view.idle =
      if o.idleFirst then s.view.idle else movedIdle s.pins.lineLoaded s.view.idle := by
  refine (calm_afterDecision s o).sameIdle.trans ?_
  cases o.idleFirst <;> rfl

section Full

variable {p} (full : p.det.mode = .full)
include full

theorem blockDecided_eq : blockDecided o p = finish (afterDecision o (handed o p)) := by
  rw [blockDecided_full o p full, decisionOf_atDecision, handed]

theorem parts_blockDecided_full : OnlyParts blockParts p (blockDecided o p) := by
  rw [blockDecided_eq o full]
  exact only_trans (parts_handed o p) (only_trans (only_mono (by decide) (parts_afterDecision _ o))
    (only_mono (by decide) (call_finish _)))

theorem blockDecided_after (q : Part) (call : q ∉ callParts) (before : q ∉ beforeParts) :
    Same q (handed o p) (blockDecided o p) := by
  rw [blockDecided_eq o full]
  exact same_trans (parts_afterDecision _ o q before) (call_finish _ q call)

theorem blockDecided_det :
    (blockDecided o p).det =
      { p.det with floor := floorAfter p.det.floor (5 * p.det.sumSq / 4096) (decisionOf p) } :=
  (blockDecided_after o full .det (by decide) (by decide)).trans (handed_det o p)

theorem blockDecided_rx :
    (blockDecided o p).rx = (rxDecide (decisionOf p) (blockInTx p) o.delivery p).rx :=
  (blockDecided_after o full .rx (by decide) (by decide)).trans (handed_rx o p)

theorem blockDecided_overdrive :
    (blockDecided o p).conds.overdrive = (p.conds.overdrive || decide (4 ≤ p.det.clips)) := by
  rw [blockDecided_eq o full, (calm_finish _).overdrive, (calm_afterDecision _ o).overdrive]
  cases o.idleFirst <;> exact handed_overdrive _ _

theorem blockDecided_idle :
    (blockDecided o p).view.idle =
      if o.idleFirst then (handed o p).view.idle
      else movedIdle p.pins.lineLoaded (handed o p).view.idle := by
  have pins : (handed o p).pins = p.pins := parts_handed o p .pins (by decide)
  rw [blockDecided_eq o full, (calm_finish _).sameIdle, afterDecision_idle, pins]

theorem blockDecided_idle_loaded (loaded : p.pins.lineLoaded = true) :
    (blockDecided o p).view.idle = 0 := by
  rw [blockDecided_idle o full, loaded]
  split
  next first =>
    have before : (atDecision o p).view.idle = 0 := by rw [atDecision_idle, if_pos first, loaded]; rfl
    obtain same | zero := (heard_handOn (measured (atDecision o p)) (decisionOf p) (blockInTx p) o).idle
    · exact same.trans ((congrArg (·.idle) (calm_measured _)).trans before)
    · exact zero
  next => rfl

theorem blockDecided_idle_quiet (word : p.rx.word = none) :
    (blockDecided o p).view.idle = movedIdle p.pins.lineLoaded p.view.idle := by
  have kept : (measured (atDecision o p)).rx = p.rx :=
    (parts_measured _ .rx (by decide)).trans (parts_atDecision o p .rx (by decide))
  have idle : (handed o p).view.idle = (atDecision o p).view.idle :=
    (calm_handOn _ (kept ▸ word) _ _ o).sameIdle.trans (congrArg (·.idle) (calm_measured _))
  rw [blockDecided_idle o full, idle, atDecision_idle]
  cases o.idleFirst <;> rfl

end Full

/-! ## In doze -/

section Doze

variable {p} {n : Nat}

/-- R31, R32: what an evaluated doze block may change. -/
theorem parts_dozeBlockEnd (s : State) : OnlyParts [.conds, .doze] s (dozeBlockEnd n s) := by
  have noted : OnlyParts [.conds, .doze] s (noteOverdrive s) := by
    rw [noteOverdrive_eq]
    intro q hq; cases q <;> first | rfl | simp at hq
  have woke (u : State) : OnlyParts [.conds, .doze] u (wake u) :=
    only_of_ite (fun q hq => by cases q <;> first | rfl | simp at hq) (only_refl _ _)
  exact only_of_ite (only_of_ite (only_trans noted (woke _)) noted) (only_refl _ _)

theorem dozeBlockEnd_overdrive (s : State) :
    (dozeBlockEnd n s).conds.overdrive =
      (s.conds.overdrive || decide (n % 4 = 0 ∧ 4 ≤ s.det.clips)) := by
  unfold dozeBlockEnd
  split
  next evaluated =>
    have noted : (noteOverdrive s).conds.overdrive =
        (s.conds.overdrive || decide (n % 4 = 0 ∧ 4 ≤ s.det.clips)) := by
      rw [noteOverdrive_eq]; simp [evaluated]
    simp only
    split
    · rw [wake_conds, noted]
    · exact noted
  next skipped => simp [skipped]

/-- R32, R167: a doze block wakes the station when it is evaluated and passes the attention test. -/
theorem dozeBlockEnd_doze (s : State) :
    (n % 4 = 0 ∧ attentionPassed s = true → (dozeBlockEnd n s).doze = woken s.doze) ∧
      (¬(n % 4 = 0 ∧ attentionPassed s = true) → (dozeBlockEnd n s).doze = s.doze) := by
  have noted : (noteOverdrive s).doze = s.doze := by rw [noteOverdrive_eq]
  have same : attentionPassed (noteOverdrive s) = attentionPassed s := by rw [noteOverdrive_eq]; rfl
  unfold dozeBlockEnd
  by_cases evaluated : n % 4 = 0
  · simp only [evaluated, if_true, true_and, same]
    refine ⟨fun passed => ?_, fun failed => ?_⟩
    · rw [if_pos passed, wake_doze_eq, noted]
    · rw [if_neg failed, noted]
  · simp [evaluated]

variable (mode : p.det.mode = .doze n)
include mode

theorem blockDecided_doze_eq :
    blockDecided o p = finish (afterDecision o (dozeBlockEnd n (atDecision o p))) := by
  have mode' : (atDecision o p).det.mode = .doze n := by rw [atDecision_det, mode]
  have decided : decideBlock (blockInTx p) o (atDecision o p) = dozeBlockEnd n (atDecision o p) := by
    simp only [decideBlock, mode']
  exact congrArg (fun u => finish (afterDecision o u)) decided

theorem parts_blockDecided_doze : OnlyParts beforeParts p (blockDecided o p) := by
  rw [blockDecided_doze_eq o mode]
  exact only_trans (parts_atDecision o p) (only_trans (only_mono (by decide) (parts_dozeBlockEnd _))
    (only_trans (parts_afterDecision _ o) (only_mono (by decide) (call_finish _))))

theorem blockDecided_doze_overdrive :
    (blockDecided o p).conds.overdrive =
      (p.conds.overdrive || decide (n % 4 = 0 ∧ 4 ≤ p.det.clips)) := by
  rw [blockDecided_doze_eq o mode, (calm_finish _).overdrive, (calm_afterDecision _ o).overdrive]
  have decided : (dozeBlockEnd n (atDecision o p)).conds.overdrive =
      (p.conds.overdrive || decide (n % 4 = 0 ∧ 4 ≤ p.det.clips)) := by
    rw [dozeBlockEnd_overdrive, atDecision_overdrive, atDecision_det]
  cases o.idleFirst <;> exact decided

end Doze

/-! ## The wake causes of a block end -/

/-- The doze part after a step that wakes exactly when `P` holds. -/
def WakesIf (P : Prop) (d e : Doze) : Prop := (P → e = woken d) ∧ (¬P → e = d)

theorem WakesIf.trans {P Q : Prop} {d e f : Doze} (h₁ : WakesIf P d e) (h₂ : WakesIf Q e f) :
    WakesIf (P ∨ Q) d f := by
  by_cases p : P <;> by_cases q : Q <;>
    simp_all [WakesIf, woken_woken]

theorem WakesIf.congr {P Q : Prop} {d e : Doze} (h : WakesIf P d e) (iff : P ↔ Q) : WakesIf Q d e :=
  ⟨fun q => h.1 (iff.mpr q), fun q => h.2 (mt iff.mp q)⟩

theorem wakesIf_atDecision : WakesIf (o.trunkFirst = true ∧ TrunkRises p) p.doze (atDecision o p).doze :=
  beforeDecision_doze (lineTimers p) o

/-- R149, R150, R167: the reading of TRUNK_RING before the decision, or the one after it, finds the rise. -/
theorem wakesIf_afterDecision {s : State}
    (decided : OnlyParts (.det :: .rx :: .doze :: callParts) (atDecision o p) s) :
    WakesIf (o.trunkFirst = false ∧ TrunkRises p) s.doze (afterDecision o s).doze := by
  refine WakesIf.congr (afterDecision_doze s o) (and_congr_right fun trunkLast => ?_)
  have shape : atDecision o p = onlyIf o.trunkFirst trunkNow (expiriesFirst o (lineTimers p)) := rfl
  have first : OnlyParts callParts p (atDecision o p) := by
    rw [shape, trunkLast]
    exact only_trans (trunk_lineTimers p) (call_expiriesFirst _ o)
  exact trunkRises_congr ((decided .settings (by decide)).trans (first .settings (by decide)))
    ((decided .link (by decide)).trans (first .link (by decide)))
    ((decided .trunk (by decide)).trans (first .trunk (by decide)))
    ((decided .pins (by decide)).trans (first .pins (by decide)))

theorem wakesIf_block {e f g : Doze} {Q : Prop}
    (h₁ : WakesIf (o.trunkFirst = true ∧ TrunkRises p) p.doze e) (h₂ : WakesIf Q e f)
    (h₃ : WakesIf (o.trunkFirst = false ∧ TrunkRises p) f g) :
    WakesIf (Q ∨ TrunkRises p) p.doze g := by
  refine ((h₁.trans h₂).trans h₃).congr ?_
  cases o.trunkFirst <;> simp [or_comm]

theorem blockDecided_wakes_full (full : p.det.mode = .full) :
    WakesIf (TrunkRises p) p.doze (blockDecided o p).doze := by
  have parts : OnlyParts (.det :: .rx :: .doze :: callParts) (atDecision o p) (handed o p) :=
    only_trans (only_mono (by decide) (parts_measured _)) (only_mono (by decide) (rx_handOn _ _ _ o))
  have doze : (handed o p).doze = (atDecision o p).doze :=
    (rx_handOn _ _ _ o .doze (by decide)).trans (parts_measured _ .doze (by decide))
  have finished : (blockDecided o p).doze = (afterDecision o (handed o p)).doze := by
    rw [blockDecided_eq o full]
    exact call_finish _ .doze (by decide)
  have still : WakesIf False (atDecision o p).doze (handed o p).doze := ⟨nofun, fun _ => doze⟩
  rw [finished]
  exact (wakesIf_block o p (wakesIf_atDecision o p) still (wakesIf_afterDecision o p parts)).congr
    (by simp)

theorem blockDecided_wakes_doze {n : Nat} (mode : p.det.mode = .doze n) :
    WakesIf ((n % 4 = 0 ∧ attentionPassed p = true) ∨ TrunkRises p) p.doze (blockDecided o p).doze := by
  have finished : (blockDecided o p).doze =
      (afterDecision o (dozeBlockEnd n (atDecision o p))).doze := by
    rw [blockDecided_doze_eq o mode]
    exact call_finish _ .doze (by decide)
  have same : attentionPassed (atDecision o p) = attentionPassed p := by
    simp only [attentionPassed, lenientOf, thresholdOf, sensitivityOf, atDecision_det,
      atDecision_settings]
  rw [finished]
  exact wakesIf_block o p (wakesIf_atDecision o p) (same ▸ dozeBlockEnd_doze (atDecision o p))
    (wakesIf_afterDecision o p (only_mono (by decide) (parts_dozeBlockEnd _)))

/-- No block end wakes an awake station, whose count is below 100. -/
theorem blockDecided_awake (awake : p.doze.dozing = false) (low : p.doze.count ≠ 100) :
    (blockDecided o p).doze = p.doze := by
  have same {P : Prop} (h : WakesIf P p.doze (blockDecided o p).doze) :
      (blockDecided o p).doze = p.doze := by
    by_cases wakes : P
    · exact (h.1 wakes).trans (woken_awake awake low)
    · exact h.2 wakes
  cases mode : p.det.mode with
  | full => exact same (blockDecided_wakes_full o p mode)
  | doze n => exact same (blockDecided_wakes_doze o p mode)

/-! ## The new block -/

/-- R14, R166: what the doze test and the new block make of the state that the steps leave. -/
theorem blockWork_record :
    blockWork o p =
      { blockDecided o p with
        frame := ⟨0, (blockDecided o p).frame.tickPos⟩
        det := ⟨.const ⟨0, 0⟩, 0, 0, (blockDecided o p).det.floor,
          nextMode (blockDecided o p).doze.dozing (blockDecided o p).det.mode⟩
        tx := { (blockDecided o p).tx with cutBlock := false }
        doze := if p.doze.dozing then (blockDecided o p).doze
          else ⟨(blockDecided o p).doze.dozing, if dozeConditions (blockDecided o p)
            then min 100 ((blockDecided o p).doze.count + 1) else 0⟩ } := by
  rw [blockWork_eq]
  cases p.doze.dozing <;> rfl

theorem blockWork_floor : (blockWork o p).det.floor = (blockDecided o p).det.floor := by
  rw [blockWork_record]

theorem blockWork_mode :
    (blockWork o p).det.mode =
      nextMode (blockDecided o p).doze.dozing (blockDecided o p).det.mode := by
  rw [blockWork_record]

theorem blockWork_rx : (blockWork o p).rx = (blockDecided o p).rx := by
  rw [blockWork_record]

theorem blockWork_conds : (blockWork o p).conds = (blockDecided o p).conds := by
  rw [blockWork_record]

theorem blockWork_view : (blockWork o p).view = (blockDecided o p).view := by
  rw [blockWork_record]

theorem blockWork_frame : (blockWork o p).frame = ⟨0, (blockDecided o p).frame.tickPos⟩ := by
  rw [blockWork_record]

theorem blockWork_doze_dozing (h : p.doze.dozing = true) :
    (blockWork o p).doze = (blockDecided o p).doze := by
  rw [blockWork_record]
  exact if_pos h

theorem blockWork_doze_awake (h : p.doze.dozing = false) :
    (blockWork o p).doze =
      ⟨(blockDecided o p).doze.dozing, if dozeConditions (blockDecided o p)
        then min 100 ((blockDecided o p).doze.count + 1) else 0⟩ := by
  rw [blockWork_record]
  exact if_neg (Bool.eq_false_iff.mp h)

theorem blockWork_clean :
    (blockWork o p).det.sumSq = 0 ∧ (blockWork o p).det.clips = 0 ∧
      (blockWork o p).det.filters = .const ⟨0, 0⟩ := by
  rw [blockWork_record]
  exact ⟨rfl, rfl, rfl⟩

theorem const_ofTone : ∀ k : Tone, (Bank.const (⟨0, 0⟩ : FilterState)).ofTone k = ⟨0, 0⟩ := by decide

/-- What a whole block end at full rate may change. -/
theorem parts_blockWork_full {s : State} {loaded ring : Bool} {code : Code}
    (full : s.det.mode = .full) :
    OnlyParts [.pins, .frame, .det, .conds, .rx, .engine, .out, .tx, .view, .answer, .request,
      .dial, .trunk, .doze, .inbox] s (blockWork o (presentLine loaded ring code s)) := by
  have presented : OnlyParts [.pins, .frame, .det, .tx, .doze] s (presentLine loaded ring code s) := by
    intro q hq; cases q <;> first | rfl | simp at hq
  have renewed (u : State) (f : Frame) (d : Detector) (x : Transmitter) (z : Doze) :
      OnlyParts [.pins, .frame, .det, .tx, .doze] u
        { u with frame := f, det := d, tx := x, doze := z } := by
    intro q hq; cases q <;> first | rfl | simp at hq
  rw [blockWork_record]
  exact only_trans (only_mono (by decide) presented) (only_trans
    (only_mono (by decide) (parts_blockDecided_full (p := presentLine loaded ring code s) o full))
    (only_mono (by decide) (renewed _ _ _ _ _)))

/-- R95, R149: the readings after the decision, of the pins as presented. -/
theorem afterDecision_eq {s : State} {loaded : Bool} (h : s.pins.lineLoaded = loaded) :
    afterDecision o s =
      (let read := if o.idleFirst then s else viewReading loaded s
      if o.trunkFirst then read else trunkBlock read) := by
  subst h
  unfold afterDecision
  cases o.idleFirst <;> cases o.trunkFirst <;> rfl

theorem measured_atDecision :
    measured (atDecision o p) =
      { atDecision o p with
        conds := { (atDecision o p).conds with
          overdrive := (atDecision o p).conds.overdrive || decide (4 ≤ p.det.clips) }
        det := { p.det with
          floor := floorAfter p.det.floor (5 * p.det.sumSq / 4096) (decisionOf p) } } := by
  rw [measured_eq, atDecision_det, decisionOf_atDecision]

theorem tickBlock_eq (r : Request) :
    r.tickBlock = if r.wait = .sending ∨ r.wait = .stopped then r else { r with timer := r.timer - 1 } := by
  unfold Request.tickBlock
  cases h : r.wait <;> simp

theorem floorAfter_int (f q : Nat) (d : Decision) :
    ((floorAfter f q d : Nat) : Int) = (match d with
      | .silent => max 16 (min 65535 ((f : Int) + ((q : Int) - f) / 16))
      | .noise => max 16 (min 65535 ((f : Int) + ((q : Int) - f) / 256))
      | .pair _ | .overlap | .unusable => (f : Int)) := by
  have clamp (x : Int) : ((clampFloor x : Nat) : Int) = max 16 (min 65535 x) := by
    unfold clampFloor
    split_ifs <;> omega
  cases d with
  | silent => exact clamp _
  | noise => exact clamp _
  | pair p => rfl
  | overlap => rfl
  | unusable => rfl

end Sys2Proof.Machine
end

section
open Sys2Proof Sys2Proof.Machine

/-- Settles O18: the doze part by `blockDecided_wakes_doze`, the rest by what a doze block's end
leaves alone. -/
theorem dozeIsEnteredTestedAndLeft : Obligations.DozeIsEnteredTestedAndLeft := by
  refine ⟨?_, ?_⟩
  · intro loaded ring code o s n powered due pos mode q t e2 e6 passed rise
    let p := presentLine loaded ring code s
    let u := blockDecided o p
    have parts : OnlyParts beforeParts p u := parts_blockDecided_doze o mode
    have det : u.det = s.det := parts .det (by decide)
    have wakes : WakesIf (passed ∨ rise) s.doze u.doze :=
      (blockDecided_wakes_doze o p mode).congr
        (or_congr (and_congr_right fun _ => attentionPassed_iff p) Iff.rfl)
    have nextBlock : (blockWork o p).det.mode = nextMode u.doze.dozing (.doze n) := by
      rw [blockWork_mode, ← mode, ← det]
    refine ⟨blockWork o p, exec_blockEnd_of_nothingDue s powered due pos,
      (blockWork_floor o p).trans (congrArg _ det), (blockWork_rx o p).trans (parts .rx (by decide)),
      ?_, ?_, fun isDozing => ⟨fun woke => ?_, fun slept => ?_⟩, fun awake => ?_⟩
    · have frame : u.frame = s.frame := parts .frame (by decide)
      rw [blockWork_frame, ← frame]
    · rw [blockWork_conds]
      exact blockDecided_doze_overdrive (p := p) o mode
    · have state : u.doze = ⟨false, 0⟩ := (wakes.1 woke).trans (woken_dozing isDozing)
      rw [nextBlock, state]
      exact ⟨(blockWork_doze_dozing o p isDozing).trans state, rfl⟩
    · have state : u.doze = s.doze := wakes.2 slept
      rw [nextBlock, state, isDozing]
      exact ⟨(blockWork_doze_dozing o p isDozing).trans state, rfl⟩
    · have low : s.doze.count ≠ 100 := count_ne_of_nothingDue due awake
      have state : u.doze.dozing = false :=
        (congrArg Doze.dozing (blockDecided_awake o p awake low)).trans awake
      rw [nextBlock, state]
      exact ⟨(congrArg Doze.dozing (blockWork_doze_awake o p awake)).trans state, rfl⟩
  · intro s powered
    refine ⟨fun full => ?_, fun waking => ?_, fun awake low => ?_⟩
    · have entry : dozeEntryDue s = true := by rw [dozeEntryDue, full]; rfl
      refine (act_of_powered powered settleDozeEntry).trans (congrArg _ ((if_pos entry).trans ?_))
      rw [takeDozeEntry, full]
    · refine (act_of_powered powered wake).trans (congrArg _ (if_pos ?_))
      simpa using waking
    · refine (act_of_powered powered wake).trans (congrArg _ (if_neg ?_))
      simp [awake, low.ne]

/-- Settles O17: `blockWork_record` gives the state after the block end, and `parts_…`, `calm_…` and
`blockDecided_…` what each part of it holds. -/
theorem blockEndMovesTheFloor : Obligations.BlockEndMovesTheFloor := by
  refine ⟨?_, ?_, ?_, ?_⟩
  · intro loaded ring code o s powered due pos full q f b d inTx
    let p := presentLine loaded ring code s
    have mode : p.det.mode = .full := full
    have det := blockDecided_det o mode
    obtain ⟨sumSq, clips, filters⟩ := blockWork_clean o p
    refine ⟨blockWork o p, exec_blockEnd_of_nothingDue s powered due pos, rfl, ?_, ?_, ?_, sumSq,
      clips, fun k => ?_, ?_, fun isLoaded => ?_, fun unloaded word => ?_, parts_blockWork_full o full⟩
    · rw [blockWork_floor, det]
      exact floorAfter_int _ _ _
    · rw [blockWork_conds]
      exact blockDecided_overdrive o mode
    · have frame : (blockDecided o p).frame = s.frame :=
        parts_blockDecided_full o mode .frame (by decide)
      rw [blockWork_frame, frame]
    · rw [filters]
      exact const_ofTone k
    · rw [blockWork_rx, blockDecided_rx o mode]
      exact rxDecide_rx_congr (t := p) (s := s) rfl _ _ _
    · rw [blockWork_view]
      exact blockDecided_idle_loaded o mode isLoaded
    · rw [blockWork_view, blockDecided_idle_quiet o mode word]
      exact if_neg (Bool.eq_false_iff.mp unloaded)
  · intro loaded ring code o s powered due pos full d inTx reading timed b₁ b₂ b₃ b₄ measured'
      receives transmits decided read u
    let p := presentLine loaded ring code s
    have mode : p.det.mode = .full := full
    have timers : lineTimers p = timed := by
      have tick : Request.tickBlock = fun r =>
          if r.wait = .sending ∨ r.wait = .stopped then r else { r with timer := r.timer - 1 } :=
        funext tickBlock_eq
      exact congrArg (fun g => { tickSlot p with request := { s.request with
        record := s.request.record.map g } }) tick
    have before : atDecision o p = b₄ := congrArg (beforeDecision o) timers
    have noted : measured (atDecision o p) = measured' :=
      (measured_atDecision o p).trans (congrArg (fun b : State =>
        { b with
          conds := { b.conds with overdrive := b.conds.overdrive || decide (4 ≤ s.det.clips) }
          det := { s.det with floor := floorAfter s.det.floor (5 * s.det.sumSq / 4096) d } }) before)
    have taken : handed o p = decided := congrArg (handOn d inTx o) noted
    have pins : (handed o p).pins = p.pins := parts_handed o p .pins (by decide)
    have loadedPin : (handed o p).pins.lineLoaded = loaded := congrArg (·.lineLoaded) pins
    have result : blockDecided o p = u := by
      refine (blockDecided_eq o mode).trans (congrArg finish ?_)
      refine (afterDecision_eq o loadedPin).trans ?_
      rw [taken]
      rfl
    have det := blockDecided_det o mode
    have frame : (blockDecided o p).frame = s.frame := parts_blockDecided_full o mode .frame (by decide)
    have nextBlock : nextMode u.doze.dozing p.det.mode = if u.doze.dozing then .doze 0 else .full := by
      rw [mode]; rfl
    rw [exec_blockEnd_of_nothingDue s powered due pos, blockWork_record, det, frame, result]
    exact congrArg (fun m => Host.Outcome.next
      { u with
        frame := ⟨0, s.frame.tickPos⟩
        det := ⟨.const ⟨0, 0⟩, 0, 0, measured'.det.floor, m⟩
        tx := { u.tx with cutBlock := false }
        doze := if s.doze.dozing then u.doze
          else ⟨u.doze.dozing, if dozeConditions u then min 100 (u.doze.count + 1) else 0⟩ }) nextBlock
  · intro loaded ring code o s powered due pos awake
    let p := presentLine loaded ring code s
    have low : s.doze.count ≠ 100 := count_ne_of_nothingDue due awake
    have still : (blockDecided o p).doze = s.doze := blockDecided_awake o p awake low
    have doze := blockWork_doze_awake o p awake
    have holds_iff := dozeConditions_iff (blockDecided o p)
    refine ⟨blockWork o p, exec_blockEnd_of_nothingDue s powered due pos, ?_, ?_⟩
    · rw [doze, still]
      exact awake
    · intro holds
      have same : dozeConditions (blockDecided o p) = true ↔ holds := by
        simp only [holds, blockWork_record]
        exact holds_iff
      rw [doze, still]
      exact ⟨fun yes => if_pos (same.mpr yes), fun no => if_neg (mt same.mp no)⟩
  · intro loaded ring code o s powered
    refine ⟨fun early => ?_, fun pos settled restart => ?_⟩
    · exact (act_of_powered powered (takeBlockEnd loaded ring code o)).trans
        (congrArg _ (takeBlockEnd_early s loaded ring code o early))
    · let p := presentLine loaded ring code s
      have restarts : takeBlockEnd loaded ring code o s = settleRestart p := by
        have isDue : blockDue s = true := decide_eq_true pos
        rw [takeBlockEnd, whenDue_of_due isDue, atBoundary, settled]
        exact (if_pos restart).trans (if_pos restart).symm
      exact (act_of_powered powered (takeBlockEnd loaded ring code o)).trans
        ((congrArg _ restarts).trans (act_of_powered (s := p) powered settleRestart).symm)

end

section
/-! The tick, the hookswitch and what the blocks make of its reports. -/

namespace Sys2Proof.Machine

/-! ## The script voices at a tick -/

theorem begins_with_sound (sc : Script) : ∃ p n, sc.steps[0]? = some (.sound p n) := by
  cases sc with
  | ring n => fin_cases n <;> exact ⟨_, _, rfl⟩
  | trunk | urgent | alert | revert | instruct | ringback | busy | error | cleared | lockout
  | answerWait | callerGone | breakWarn | urgentCall => exact ⟨_, _, rfl⟩

/-- R57, R58: a script voice after a tick. -/
def CadenceVoice.ticked (c : CadenceVoice) : CadenceVoice :=
  match c.script with
  | none => c
  | some sc =>
    if c.begun then { c with remaining := c.remaining - 1 }
    else
      match sc.steps[0]? with
      | some (ScriptStep.sound p n) =>
        { c with index := 0, remaining := n, step := p.step, phase := 0, begun := true }
      | _ => c

theorem tickVoice_eq (v : ScriptVoice) (s : State) :
    tickVoice v s = setVoice v (s.engine.voice v).ticked s := by
  unfold tickVoice CadenceVoice.ticked
  cases script : (s.engine.voice v).script with
  | none =>
    simp only [script, Option.isNone_none, if_true]
    cases v <;> rfl
  | some sc =>
    simp only [script, Option.isNone_some, Bool.false_eq_true, if_false]
    split
    · rfl
    · obtain ⟨p, n, first⟩ := begins_with_sound sc
      rw [scriptFuel, runScript]
      simp only [script, first]
      rw [beginSound, ← script]

section Ticked

variable {c : CadenceVoice} {sc : Script}

theorem CadenceVoice.ticked_silent (h : c.script = none) : c.ticked = c := by
  simp only [CadenceVoice.ticked, h]

theorem CadenceVoice.ticked_begun (h : c.script = some sc) (begun : c.begun = true) :
    c.ticked = { c with remaining := c.remaining - 1 } := by
  simp only [CadenceVoice.ticked, h, begun, if_true]

theorem CadenceVoice.ticked_begins (h : c.script = some sc) (begun : c.begun = false) {p : Pitch}
    {n : Nat} (first : sc.steps[0]? = some (.sound p n)) :
    c.ticked = { c with index := 0, remaining := n, step := p.step, phase := 0, begun := true } := by
  simp [CadenceVoice.ticked, h, begun, first]

end Ticked

/-- The engine after a tick. -/
def Engine.ticked (e : Engine) : Engine := { e with ear := e.ear.ticked, bell := e.bell.ticked }

theorem Engine.voice_ticked (e : Engine) (v : ScriptVoice) : e.ticked.voice v = (e.voice v).ticked := by
  cases v <;> rfl

theorem tickVoices_eq (s : State) :
    tickVoice .ringer (tickVoice .earpiece s) = { s with engine := s.engine.ticked } := by
  rw [tickVoice_eq, tickVoice_eq]
  rfl

/-! ## The decoder at a tick -/

/-- R125, R126: HOOK read at a tick, but not on the station coded 15. -/
def DialDecoder.hooked (trunkEnd closed : Bool) (d : DialDecoder) : DialDecoder :=
  if trunkEnd then d else d.tickPeriod.readHook closed

/-- R127, R128: DIAL read at a tick while dialling is open. -/
def DialDecoder.dialled (closed : Bool) (d : DialDecoder) : DialDecoder :=
  match d.state with
  | .idle | .counting => d.tickWait.readDial closed
  | .barred => d.tickWait.readBarred closed

/-- R127: the decoder once the dialling has followed. -/
def DialDecoder.followed (isOpen : Bool) (d : DialDecoder) : DialDecoder :=
  if d.hook ≠ .onHook ∧ isOpen = false then d.discard else d

/-- R125 to R129: the decoder after a tick. -/
def DialDecoder.ticked (trunkEnd isOpen hookClosed dialClosed : Bool) (d : DialDecoder) : DialDecoder :=
  let read := (d.followed isOpen).hooked trunkEnd hookClosed
  (if isOpen then read.dialled dialClosed else read).followed isOpen

theorem followDial_eq (s : State) :
    followDial s = { s with dial := s.dial.followed (diallingOpen s) } := by
  unfold followDial DialDecoder.followed
  split <;> rfl

theorem tickHook_eq (s : State) :
    tickHook s = { s with dial := s.dial.hooked (isTrunkEnd s) s.pins.hookClosed } := by
  unfold tickHook DialDecoder.hooked
  split <;> rfl

theorem tickDial_eq (s : State) :
    tickDial s =
      { s with dial := if diallingOpen s then s.dial.dialled s.pins.dialClosed else s.dial } := by
  unfold tickDial DialDecoder.dialled
  split
  · have state : s.dial.tickWait.state = s.dial.state := rfl
    simp only [state]
    cases s.dial.state <;> rfl
  · rfl

/-- Dialling stays open, or closed, while the parts that R127 names stay. -/
theorem diallingOpen_congr {s t : State} (hook : t.dial.hook = s.dial.hook)
    (request : t.request = s.request) (view : t.view = s.view) (answer : t.answer = s.answer)
    (settings : t.settings = s.settings) (mode : t.link.setupMode = s.link.setupMode) :
    diallingOpen t = diallingOpen s := by
  have party : isParty t = isParty s := by rw [isParty, isParty, ownCode_congr settings, view]
  simp only [diallingOpen, hook, requestClear, recordNone, request, party, slotEmpty, answer, inService,
    isActive, settings, mode]

section Fields

variable (d : DialDecoder) (b c : Bool)

theorem DialDecoder.followed_hook : (d.followed b).hook = d.hook := by
  unfold DialDecoder.followed
  split <;> rfl

theorem DialDecoder.hooked_hook : (d.hooked b c).hook = d.hook := by
  unfold DialDecoder.hooked DialDecoder.readHook DialDecoder.tickPeriod
  split_ifs <;> rfl

theorem DialDecoder.dialled_hook : (d.dialled c).hook = d.hook := by
  unfold DialDecoder.dialled DialDecoder.readDial DialDecoder.readBarred
  cases d.state with
  | idle | counting => simp only; split_ifs <;> rfl
  | barred => rfl

end Fields

theorem tickCount_gap (l : SetupLink) :
    ({ l.tickCount with gap := l.gap - 1 } : SetupLink) =
      { l with
        powerOn := if l.powerOn < 5999 then l.powerOn + 1 else l.powerOn
        windowDue := l.windowDue || decide (l.powerOn = 5999)
        gap := l.gap - 1 } := by
  unfold SetupLink.tickCount
  split_ifs with below limit
  · simp [below.ne]
  · simp [limit]
  · simp [limit]

theorem tickCount_setupMode (l : SetupLink) : l.tickCount.setupMode = l.setupMode := by
  unfold SetupLink.tickCount
  split_ifs <;> rfl

/-- R57, R125 to R129, R162, R168: the state after a tick whose steps raise no event. -/
theorem exec_tick_of_nothingDue {s : State} (h d : Bool) (ready : Ready s) (due : NothingDue s)
    (pos : 80 ≤ s.frame.tickPos) :
    exec (.tick h d) s = .next
      { s with
        frame := ⟨s.frame.pos, 0⟩
        pins := { s.pins with hookClosed := h, dialClosed := d }
        engine := s.engine.ticked
        dial := s.dial.ticked (isTrunkEnd s) (diallingOpen s) h d
        link := { s.link with
          powerOn := if s.link.powerOn < 5999 then s.link.powerOn + 1 else s.link.powerOn
          windowDue := s.link.windowDue || decide (s.link.powerOn = 5999)
          gap := s.link.gap - 1 }
        lamp := s.lamp.next (chosenPattern s) } := by
  obtain ⟨powered, inbox⟩ := ready
  have taken := takeTick_of_nothingDue s h d due pos
  refine (act_of_powered powered (takeTick h d)).trans (congrArg _ (taken.trans ?_))
  let p := presentContacts h d s
  have openIn (e : Engine) (x : DialDecoder) (hook : x.hook = s.dial.hook) (l : SetupLink)
      (mode : l.setupMode = s.link.setupMode) (y : Lamp) :
      diallingOpen { p with engine := e, dial := x, link := l, lamp := y } = diallingOpen s :=
    diallingOpen_congr hook rfl rfl rfl rfl mode
  have voices : finish (tickVoice .ringer (tickVoice .earpiece p)) =
      { p with engine := s.engine.ticked, dial := s.dial.followed (diallingOpen s) } := by
    have sounded : tickVoice .ringer (tickVoice .earpiece p) = { p with engine := s.engine.ticked } :=
      tickVoices_eq p
    rw [sounded, finish_quiet { p with engine := s.engine.ticked } inbox, followDial_eq]
    exact congrArg (fun b => { p with engine := s.engine.ticked, dial := s.dial.followed b })
      (openIn s.engine.ticked s.dial rfl s.link rfl s.lamp)
  let x := (s.dial.followed (diallingOpen s)).hooked (isTrunkEnd s) h
  have hook : x.hook = s.dial.hook := by
    rw [DialDecoder.hooked_hook, DialDecoder.followed_hook]
  let y := if diallingOpen s then x.dialled d else x
  have hook' : y.hook = s.dial.hook := by
    simp only [y]
    split
    · rw [DialDecoder.dialled_hook, hook]
    · exact hook
  have hooked : tickHook (finish (tickVoice .ringer (tickVoice .earpiece p))) =
      { p with engine := s.engine.ticked, dial := x } := by
    rw [voices, tickHook_eq]
    rfl
  have dialled : tickDial { p with engine := s.engine.ticked, dial := x } =
      { p with engine := s.engine.ticked, dial := y } := by
    refine (tickDial_eq _).trans ?_
    exact congrArg (fun b => { p with engine := s.engine.ticked, dial := if b then x.dialled d else x })
      (openIn s.engine.ticked x hook s.link rfl s.lamp)
  have worked : tickWork p =
      { p with
        engine := s.engine.ticked
        dial := y
        link := { s.link.tickCount with gap := s.link.gap - 1 }
        lamp := s.lamp.next (chosenPattern
          { p with
            engine := s.engine.ticked
            dial := y
            link := { s.link.tickCount with gap := s.link.gap - 1 } }) } := by
    rw [tickWork, hooked, dialled]
    rfl
  have pattern : chosenPattern
      { p with
        engine := s.engine.ticked
        dial := y
        link := { s.link.tickCount with gap := s.link.gap - 1 } } = chosenPattern s := by
    have mode : ({ s.link.tickCount with gap := s.link.gap - 1 } : SetupLink).setupMode =
        s.link.setupMode := tickCount_setupMode s.link
    unfold chosenPattern
    rw [mode]
    rfl
  rw [worked, pattern, tickCount_gap]
  let q (b : Bool) : State := { p with
    engine := s.engine.ticked
    dial := y.followed b
    link := { s.link with
      powerOn := if s.link.powerOn < 5999 then s.link.powerOn + 1 else s.link.powerOn
      windowDue := s.link.windowDue || decide (s.link.powerOn = 5999)
      gap := s.link.gap - 1 }
    lamp := s.lamp.next (chosenPattern s) }
  have quiet : finish { q true with dial := y } = followDial { q true with dial := y } :=
    finish_quiet { q true with dial := y } inbox
  have open' : diallingOpen { q true with dial := y } = diallingOpen s :=
    openIn s.engine.ticked y hook' (q true).link rfl (q true).lamp
  exact congrArg newTick (quiet.trans ((followDial_eq _).trans (congrArg q open')))

/-! ## What the tick leaves in the decoder -/

/-- What HOOK's readings move. -/
def DialDecoder.contact (d : DialDecoder) : HookState × Option Bool × Nat × Nat :=
  (d.hook, d.rawLevel, d.rawRun, d.period)

/-- What the dialling holds. -/
def DialDecoder.dialling (d : DialDecoder) : DialState × Nat × Nat × Nat × List Nat × Option Nat :=
  (d.state, d.pulses, d.opening, d.closure, d.buffer, d.digitWait)

section Decoder

variable {d x : DialDecoder} {isOpen trunkEnd h c : Bool}

theorem DialDecoder.followed_contact : (d.followed isOpen).contact = d.contact := by
  unfold DialDecoder.followed
  split <;> rfl

theorem DialDecoder.dialled_contact : (d.dialled c).contact = d.contact := by
  unfold DialDecoder.dialled DialDecoder.readDial DialDecoder.readBarred
  cases d.state with
  | idle | counting => simp only; split_ifs <;> rfl
  | barred => rfl

theorem DialDecoder.hooked_dialling : (d.hooked trunkEnd h).dialling = d.dialling := by
  unfold DialDecoder.hooked DialDecoder.readHook DialDecoder.tickPeriod
  split_ifs <;> rfl

theorem DialDecoder.hooked_contact :
    (d.hooked trunkEnd h).contact = if trunkEnd then d.contact else
      (d.hook, some h, if d.rawLevel = some h then min 3 (d.rawRun + 1) else 1,
        if d.hook = .onHook ∧ d.period < 80 then d.period + 1 else d.period) := by
  have raw : d.tickPeriod.rawLevel = d.rawLevel ∧ d.tickPeriod.rawRun = d.rawRun ∧
      d.tickPeriod.hook = d.hook ∧
      d.tickPeriod.period = if d.hook = .onHook ∧ d.period < 80 then d.period + 1 else d.period := by
    unfold DialDecoder.tickPeriod
    split_ifs <;> exact ⟨rfl, rfl, rfl, rfl⟩
  obtain ⟨level, run, hook, period⟩ := raw
  unfold DialDecoder.hooked
  cases trunkEnd with
  | true => rfl
  | false =>
    unfold DialDecoder.readHook DialDecoder.contact
    simp only [Bool.false_eq_true, if_false, level, run]
    split <;> simp [*]

/-- HOOK's readings move alike at every tick, whatever becomes of the dialling. -/
theorem DialDecoder.ticked_contact :
    (d.ticked trunkEnd isOpen h c).contact = (d.hooked trunkEnd h).contact := by
  have kept : (d.followed isOpen).contact = d.contact := followed_contact
  simp only [DialDecoder.contact, Prod.mk.injEq] at kept
  obtain ⟨hook, level, run, period⟩ := kept
  have read : ((d.followed isOpen).hooked trunkEnd h).contact = (d.hooked trunkEnd h).contact := by
    rw [hooked_contact, hooked_contact, DialDecoder.contact, hook, level, run, period]
    rfl
  unfold DialDecoder.ticked
  rw [followed_contact]
  split
  · rw [dialled_contact, read]
  · exact read

theorem DialDecoder.ticked_open :
    d.ticked trunkEnd true h c = (d.hooked trunkEnd h).dialled c := by
  simp [DialDecoder.ticked, DialDecoder.followed]

/-- On-hook the dialling is held. -/
theorem DialDecoder.ticked_onHook (onHook : d.hook = .onHook) :
    d.ticked trunkEnd false h c = d.hooked trunkEnd h := by
  simp [DialDecoder.ticked, DialDecoder.followed, DialDecoder.hooked_hook, onHook]

theorem DialDecoder.ticked_closed (lifted : d.hook ≠ .onHook) :
    (d.ticked trunkEnd false h c).dialling = (.idle, 0, 0, 0, [], none) := by
  have hook : ((d.followed false).hooked trunkEnd h).hook = d.hook := by
    rw [DialDecoder.hooked_hook, DialDecoder.followed_hook]
  have thrown : (((d.followed false).hooked trunkEnd h).followed false) =
      ((d.followed false).hooked trunkEnd h).discard := if_pos ⟨by rwa [hook], rfl⟩
  exact congrArg DialDecoder.dialling thrown

theorem DialDecoder.dialled_counting (state : d.state ≠ .barred) :
    d.dialled c = d.tickWait.readDial c := by
  unfold DialDecoder.dialled
  cases st : d.state with
  | idle | counting => rfl
  | barred => exact absurd st state

theorem DialDecoder.dialled_barred (state : d.state = .barred) :
    d.dialled c = d.tickWait.readBarred c := by
  unfold DialDecoder.dialled
  rw [state]

end Decoder

/-- R127 to R129: the dialling after a tick at which it is open. -/
theorem DialDecoder.ticked_open_dialling (d : DialDecoder) (trunkEnd h c : Bool) :
    let t := d.ticked trunkEnd true h c
    t.state = d.state ∧ t.pulses = d.pulses ∧ t.buffer = d.buffer ∧
      t.digitWait = d.digitWait.map (· - 1) ∧
      (d.state ≠ .barred →
        (c = false → t.opening = min 11 (d.opening + 1) ∧ t.closure = d.closure) ∧
        (c = true → d.opening < 3 →
          t.opening = 0 ∧ t.closure = min 30 (d.closure + d.opening + 1)) ∧
        (c = true → 3 ≤ d.opening → t.opening = d.opening ∧ t.closure = d.closure)) ∧
      (d.state = .barred → t.opening = 0 ∧ t.closure = if c then min 30 (d.closure + 1) else 0) := by
  intro t
  have read : t = (d.hooked trunkEnd h).dialled c := ticked_open
  have kept : (d.hooked trunkEnd h).dialling = d.dialling := hooked_dialling
  generalize d.hooked trunkEnd h = x at read kept
  simp only [DialDecoder.dialling, Prod.mk.injEq] at kept
  obtain ⟨state, pulses, opening, closure, buffer, wait⟩ := kept
  by_cases barred : d.state = .barred
  · rw [read, dialled_barred (state.trans barred)]
    refine ⟨state, pulses, buffer, congrArg (Option.map (· - 1)) wait, fun no => absurd barred no, fun _ => ⟨rfl, ?_⟩⟩
    exact congrArg (fun n => if c then min 30 (n + 1) else 0) closure
  · rw [read, dialled_counting (by rwa [state])]
    unfold DialDecoder.readDial DialDecoder.tickWait
    cases c with
    | false =>
      simp [state, pulses, buffer, wait, opening, closure, barred]
    | true =>
      by_cases bounce : d.opening < 3
      · simp [state, pulses, buffer, wait, opening, closure, barred, bounce]
      · simp [state, pulses, buffer, wait, opening, closure, barred, bounce]

/-- Only these parts move at a tick. -/
theorem parts_of_tick (s : State) (f : Frame) (i : InputPins) (e : Engine) (d : DialDecoder) (l : SetupLink)
    (y : Lamp) :
    OnlyParts [.pins, .frame, .engine, .dial, .link, .lamp] s
      { s with
        frame := f
        pins := i
        engine := e
        dial := d
        link := l
        lamp := y } := by
  intro p notIn
  cases p <;> first | rfl | simp at notIn

end Sys2Proof.Machine
end

section

open Sys2Proof Sys2Proof.Machine

/-- Settles O51: with no step due the tick is one record of the parts before it, from which each clause is read. -/
theorem tickMovesTheTickCounts : Obligations.TickMovesTheTickCounts := by
  refine ⟨?_, ?_⟩
  · intro h d s ready due pos x opened
    have contact := DialDecoder.ticked_contact (d := x) (trunkEnd := isTrunkEnd s)
      (isOpen := diallingOpen s) (h := h) (c := d)
    rw [DialDecoder.hooked_contact] at contact
    refine ⟨_, exec_tick_of_nothingDue h d ready due pos, rfl, rfl, rfl, rfl,
      ?_, fun farm => ?_, fun trunkEnd => ?_, fun isOpen => ?_, fun onHook => ?_, fun shut lifted => ?_,
      fun v => ?_, parts_of_tick s _ _ _ _ _ _⟩
    · have hook := congrArg (·.1) contact
      split at hook <;> exact hook
    · rw [if_neg (Bool.eq_false_iff.mp farm)] at contact
      simp only [DialDecoder.contact, Prod.mk.injEq] at contact
      exact contact.2
    · rw [if_pos trunkEnd] at contact
      simp only [DialDecoder.contact, Prod.mk.injEq] at contact
      exact contact.2
    · rw [(diallingOpen_iff s).mpr isOpen]
      exact x.ticked_open_dialling (isTrunkEnd s) h d
    · have shut : diallingOpen s = false :=
        Bool.eq_false_iff.mpr fun isOpen => by
          obtain ⟨offHook, -⟩ := (diallingOpen_iff s).mp isOpen
          exact absurd (onHook.symm.trans offHook) (by decide)
      have kept := DialDecoder.hooked_dialling (d := x) (trunkEnd := isTrunkEnd s) (h := h)
      rw [shut, DialDecoder.ticked_onHook onHook]
      simpa only [DialDecoder.dialling, Prod.mk.injEq] using kept
    · have shut : diallingOpen s = false := Bool.eq_false_iff.mpr fun isOpen => shut ((diallingOpen_iff s).mp isOpen)
      have gone := DialDecoder.ticked_closed (d := x) (trunkEnd := isTrunkEnd s) (h := h) (c := d) lifted
      rw [shut]
      simpa only [DialDecoder.dialling, Prod.mk.injEq] using gone
    · have voice := s.engine.voice_ticked v
      refine ⟨fun silent => ?_, fun sc script begun => ?_, fun sc p n script begun first => ?_⟩
      · exact voice.trans (CadenceVoice.ticked_silent silent)
      · exact voice.trans (CadenceVoice.ticked_begun script begun)
      · exact voice.trans (CadenceVoice.ticked_begins script begun first)
  · intro h d s powered
    refine ⟨fun early => ?_, fun pos settled restart => ?_⟩
    · exact (act_of_powered powered (takeTick h d)).trans (congrArg _ (takeTick_early s h d early))
    · let p := presentContacts h d s
      have restarts : takeTick h d s = settleRestart p := by
        have isDue : tickDue s = true := decide_eq_true pos
        rw [takeTick, whenDue_of_due isDue, atBoundary, settled]
        exact (if_pos restart).trans (if_pos restart).symm
      exact (act_of_powered powered (takeTick h d)).trans
        ((congrArg _ restarts).trans (act_of_powered (s := p) powered settleRestart).symm)

end

section
/-! What the blocks make of an off-hook report and of HANG-UP. -/

namespace Sys2Proof.Machine

/-! ## Hook items told to the blocks -/

/-- From `s` to `t` the named blocks' hook items take the level told, the others' stay, the engine's stays, on-hook a silent voice 2 stays silent, no break comes to be pending, and a HANG-UP told to the Request Unit cancels one that is. -/
structure Told (level view answer request : Bool) (s t : State) : Prop where
  engineHook : t.engine.offHook = s.engine.offHook
  viewHook : t.view.offHook = if view then level else s.view.offHook
  answerHook : t.answer.offHook = if answer then level else s.answer.offHook
  requestHook : t.request.offHook = if request then level else s.request.offHook
  silent : s.engine.offHook = false → s.engine.ear.script = none → t.engine.ear.script = none
  unbroken : s.request.pendingBreak = none ∨ (level = false ∧ request = true) →
    t.request.pendingBreak = none

section

variable {level : Bool} {s t u : State}

theorem Told.trans {v a r v' a' r' : Bool} (h₁ : Told level v a r s t) (h₂ : Told level v' a' r' t u) :
    Told level (v || v') (a || a') (r || r') s u where
  engineHook := h₂.engineHook.trans h₁.engineHook
  viewHook := by rw [h₂.viewHook, h₁.viewHook]; cases v <;> cases v' <;> rfl
  answerHook := by rw [h₂.answerHook, h₁.answerHook]; cases a <;> cases a' <;> rfl
  requestHook := by rw [h₂.requestHook, h₁.requestHook]; cases r <;> cases r' <;> rfl
  silent hook ear := h₂.silent (h₁.engineHook.trans hook) (h₁.silent hook ear)
  unbroken h := by
    rcases h with none' | ⟨low, told⟩
    · exact h₂.unbroken (.inl (h₁.unbroken (.inl none')))
    · cases r with
      | true => exact h₂.unbroken (.inl (h₁.unbroken (.inr ⟨low, rfl⟩)))
      | false => exact h₂.unbroken (.inr ⟨low, told⟩)

theorem told_of_calm (h : Calm s t) : Told level false false false s t :=
  ⟨h.engineHook, h.viewHook, h.answerHook, h.requestHook, h.silent,
    fun none' => h.unbroken (none'.resolve_right fun no => absurd no.2 (by decide))⟩

/-- The three blocks told one after the other, in whatever order. -/
theorem told_inOrder (o : DeliveryOrder) {f g h : State → State}
    (hf : ∀ u, Told level true false false u (f u)) (hg : ∀ u, Told level false true false u (g u))
    (hh : ∀ u, Told level false false true u (h u)) : Told level true true true s (inOrder o f g h s) := by
  cases o with
  | viewAnswerRequest => exact ((hf s).trans (hg _)).trans (hh _)
  | viewRequestAnswer => exact ((hf s).trans (hh _)).trans (hg _)
  | answerViewRequest => exact ((hg s).trans (hf _)).trans (hh _)
  | answerRequestView => exact ((hg s).trans (hh _)).trans (hf _)
  | requestViewAnswer => exact ((hh s).trans (hf _)).trans (hg _)
  | requestAnswerView => exact ((hh s).trans (hg _)).trans (hf _)

theorem told_view (s : State) : Told level true false false s { s with view.offHook := level } :=
  ⟨rfl, rfl, rfl, rfl, fun _ h => h, fun h => h.resolve_right fun no => absurd no.2 (by decide)⟩

theorem told_answer (s : State) : Told level false true false s { s with answer.offHook := level } :=
  ⟨rfl, rfl, rfl, rfl, fun _ h => h, fun h => h.resolve_right fun no => absurd no.2 (by decide)⟩

theorem told_viewOffHook (s : State) : Told true true false false s (viewOffHook s) :=
  (told_view s).trans (told_of_calm (calm_refreshOutputs _))

theorem told_viewHangUp (s : State) : Told false true false false s (viewHangUp s) :=
  (told_view s).trans (told_of_calm ((calm_refreshOutputs _).trans (calm_viewOwnClear _)))

theorem told_auOffHook (s : State) : Told true false true false s (auOffHook s) :=
  (told_answer s).trans (told_of_calm (calm_auOffHook s))

theorem told_auHangUp (s : State) : Told false false true false s (auHangUp s) :=
  (told_answer s).trans (told_of_calm (calm_auHangUp s))

theorem told_ruOffHook (s : State) : Told true false false true s (ruOffHook s) := by
  have raised : Told true false false true s { s with request.offHook := true } :=
    ⟨rfl, rfl, rfl, rfl, fun _ h => h, fun h => h.resolve_right fun no => absurd no.1 (by decide)⟩
  exact raised.trans (told_of_calm (calm_ruOffHook s))

theorem told_ruHangUp (s : State) : Told false false false true s (ruHangUp s) := by
  have calm := calm_cancelBreak { s with request.offHook := false }
  have cancelled : Told false false false true s (cancelBreak { s with request.offHook := false }) :=
    ⟨calm.engineHook, calm.viewHook, calm.answerHook, calm.requestHook, calm.silent,
      fun _ => cancelBreak_pendingBreak _⟩
  exact cancelled.trans (told_of_calm (calm_ruHangUp s))

end

section

variable (o : DeliveryOrder) (s : State)

theorem engineHangUp_offHook : (engineHangUp s).engine.offHook = false := by
  unfold engineHangUp
  simp only
  split <;> rfl

theorem engineHangUp_silent : (engineHangUp s).engine.ear.script = none := by
  unfold engineHangUp
  simp only
  split
  · rfl
  · rfl
  · assumption

theorem told_reportOffHook : Told true true true true (engineOffHook s) (finish (reportOffHook o s)) :=
  (told_inOrder o told_viewOffHook told_auOffHook told_ruOffHook).trans
    (told_of_calm (calm_finish _))

theorem told_reportHangUp : Told false true true true (engineHangUp s) (finish (reportHangUp o s)) :=
  (told_inOrder o told_viewHangUp told_auHangUp told_ruHangUp).trans (told_of_calm (calm_finish _))

theorem answer_reportOffHook : OnlyParts answerParts s (reportOffHook o s) :=
  only_trans (only_mono (by decide) (voice_engineOffHook s))
    (only_inOrder _ o _ _ _ (fun u => only_mono (by decide) (view_viewOffHook u)) answer_auOffHook
      (fun u => only_mono (by decide) (request_ruOffHook u)))

theorem answer_reportHangUp : OnlyParts answerParts s (reportHangUp o s) :=
  only_trans (only_mono (by decide) (voice_engineHangUp s))
    (only_inOrder _ o _ _ _ (fun u => only_mono (by decide) (view_viewHangUp u)) answer_auHangUp
      (fun u => only_mono (by decide) (request_ruHangUp u)))

/-- The decoder at a command's end: the events leave it, and the dialling follows. -/
theorem finish_dial : ∃ b, (finish s).dial = s.dial.followed b := by
  have kept : (drain drainFuel s).dial = s.dial := answer_drain s drainFuel .dial (by decide)
  refine ⟨diallingOpen (drain drainFuel s), ?_⟩
  rw [finish, followDial_eq, kept]

theorem discard_followed (d : DialDecoder) (due b : Bool) :
    ({ d.discard with hangUpDue := due } : DialDecoder).followed b =
      { d.discard with hangUpDue := due } := by
  unfold DialDecoder.followed
  split <;> rfl

end

/-! ## The debounced change -/

theorem hookChange_powered {s : State} (o : DeliveryOrder) (powered : s.powered = true)
    (due : hookChangeDue s = true) (first : s.dial.hangUpDue = false) :
    exec (.hookDebouncedChange o) s = .next (finish (changeHook o s)) := by
  have change : takeHookChange o s = finish (changeHook o s) :=
    congrArg (fun u => finish (changeHook o u)) (if_neg (Bool.eq_false_iff.mp first))
  exact (act_of_powered powered (settleHookChange o)).trans
    (congrArg _ ((whenDue_of_due due).trans change))

theorem hookChangeDue_iff (s : State) :
    hookChangeDue s = true ↔ s.dial.rawRun = 3 ∧ isTrunkEnd s = false ∧
      (s.dial.rawLevel = some true ∧ s.dial.hook ≠ .offHook ∨
        s.dial.rawLevel = some false ∧ s.dial.hook ≠ .onHook) := by
  unfold hookChangeDue DialDecoder.changeDue
  rcases s.dial.rawLevel with _ | _ | _ <;> simp [and_assoc, and_comm, and_left_comm]

section Rows

variable {s : State} {o : DeliveryOrder}

theorem changeHook_lowered (level : s.dial.rawLevel = some false) (hook : s.dial.hook = .offHook) :
    changeHook o s = setDial s.dial.lowered s := by
  simp only [changeHook, hook, level]

theorem changeHook_startLow (level : s.dial.rawLevel = some false) (hook : s.dial.hook = .unknown) :
    changeHook o s = setDial { s.dial with hook := .onHook, period := 80 } s := by
  simp only [changeHook, hook, level]

theorem changeHook_startLifted (level : s.dial.rawLevel = some true) (hook : s.dial.hook = .unknown) :
    changeHook o s = reportOffHook o (setDial s.dial.lifted (wake s)) := by
  simp only [changeHook, hook, level]

theorem changeHook_onHook (level : s.dial.rawLevel = some true) (hook : s.dial.hook = .onHook) :
    changeHook o s = endPeriod o (wake s) := by
  simp only [changeHook, hook, level]

theorem endPeriod_bounce (short : s.dial.period < 20) : endPeriod o s = setDial s.dial.lifted s :=
  if_pos short

theorem endPeriod_flash (long : 20 ≤ s.dial.period) (short : s.dial.period < 80) :
    endPeriod o s = auFlash (setDial s.dial.lifted.forgetDigits s) :=
  (if_neg (not_lt.mpr long)).trans (if_pos short)

theorem endPeriod_lift (long : 80 ≤ s.dial.period) :
    endPeriod o s = reportOffHook o (setDial s.dial.lifted s) :=
  (if_neg (not_lt.mpr (le_trans (by decide) long))).trans (if_neg (not_lt.mpr long))

end Rows

theorem wake_eq (s : State) : wake s = { s with doze := woken s.doze } := by
  unfold wake woken
  simp only [Bool.or_eq_true, decide_eq_true_eq]
  split <;> rfl

/-- A report of the handset off-hook leaves the decoder with the hook state that the change gave it. -/
theorem reported_offHook {s : State} (o : DeliveryOrder) (d : DialDecoder) :
    let t := finish (reportOffHook o (setDial d s))
    t.dial.hook = d.hook ∧ t.dial.period = d.period ∧ t.doze = s.doze ∧ t.engine.offHook = true ∧
      t.view.offHook = true ∧ t.answer.offHook = true ∧ t.request.offHook = true := by
  intro t
  have told : Told true true true true (engineOffHook (setDial d s)) t := told_reportOffHook o _
  obtain ⟨b, followed⟩ := finish_dial (reportOffHook o (setDial d s))
  have kept : (reportOffHook o (setDial d s)).dial = d := answer_reportOffHook o _ .dial (by decide)
  have dial : t.dial = d.followed b := followed.trans (congrArg _ kept)
  have contact : t.dial.contact = d.contact := (congrArg _ dial).trans DialDecoder.followed_contact
  simp only [DialDecoder.contact, Prod.mk.injEq] at contact
  obtain ⟨hook, -, -, period⟩ := contact
  have doze : t.doze = s.doze :=
    (call_finish _ .doze (by decide)).trans (answer_reportOffHook o (setDial d s) .doze (by decide))
  exact ⟨hook, period, doze, told.engineHook, told.viewHook, told.answerHook, told.requestHook⟩

end Sys2Proof.Machine
end

section

open Sys2Proof Sys2Proof.Machine

/-- Settles O52: each change by its row, then what the blocks make of the two reports in whatever order they take them. -/
theorem hookIsDebouncedAndReported : Obligations.HookIsDebouncedAndReported := by
  refine ⟨?_, ?_⟩
  · rintro o s ⟨powered, inbox⟩ farm run first awake lifted
    have change (rest) : exec (.hookDebouncedChange o) s = .next (finish (changeHook o s)) :=
      hookChange_powered o powered ((hookChangeDue_iff s).mpr ⟨run, farm, rest⟩) first
    have low (level : s.dial.rawLevel = some false) (d : DialDecoder) (onHook : d.hook = .onHook)
        (not : s.dial.hook ≠ .onHook) (row : changeHook o s = setDial d s) :
        exec (.hookDebouncedChange o) s = .next { s with dial := d } := by
      have quiet : finish (setDial d s) = followDial (setDial d s) := finish_quiet (setDial d s) inbox
      have held : followDial (setDial d s) = setDial d s := followDial_onHook onHook
      rw [change (.inr ⟨level, not⟩), row, quiet, held]
      rfl
    let u : State := { s with doze := awake }
    have woke : wake s = u := wake_eq s
    have ended (level : s.dial.rawLevel = some true) (hook : s.dial.hook = .onHook) :
        exec (.hookDebouncedChange o) s = .next (finish (endPeriod o u)) := by
      rw [change (.inl ⟨level, by rw [hook]; decide⟩), changeHook_onHook level hook, woke]
    refine ⟨fun level hook => ?_, fun level hook => ?_, fun level hook bounce => ?_,
      fun level hook long flash => ?_, fun level up => ?_⟩
    · exact low level _ rfl (by rw [hook]; decide) (changeHook_startLow level hook)
    · exact low level _ rfl (by rw [hook]; decide) (changeHook_lowered level hook)
    · have row : endPeriod o u = lifted := endPeriod_bounce (s := u) bounce
      have quiet : finish lifted = followDial lifted := finish_quiet lifted inbox
      rw [ended level hook, row, quiet]
    · exact (ended level hook).trans
        (congrArg (fun v => Host.Outcome.next (finish v)) (endPeriod_flash (s := u) long flash))
    · have report : exec (.hookDebouncedChange o) s =
          .next (finish (reportOffHook o (setDial s.dial.lifted u))) := by
        rcases up with hook | ⟨hook, long⟩
        · rw [change (.inl ⟨level, by rw [hook]; decide⟩), changeHook_startLifted level hook, woke]
        · rw [ended level hook]
          exact congrArg (fun v => Host.Outcome.next (finish v)) (endPeriod_lift (s := u) long)
      exact ⟨_, report, reported_offHook (s := u) o s.dial.lifted⟩
  · rintro o s ⟨powered, inbox⟩ due
    let d : DialDecoder := { s.dial.discard with hangUpDue := false }
    let u := setDial d s
    have told : Told false true true true (engineHangUp u) (finish (reportHangUp o u)) :=
      told_reportHangUp o u
    obtain ⟨b, followed⟩ := finish_dial (reportHangUp o u)
    have kept : (reportHangUp o u).dial = d := answer_reportHangUp o u .dial (by decide)
    have dial : (finish (reportHangUp o u)).dial = d := by
      rw [followed, kept]
      exact discard_followed s.dial false b
    refine ⟨finish (reportHangUp o u),
      (act_of_powered powered (settleHangUp o)).trans (congrArg _ (whenDue_of_due due)),
      told.engineHook.trans (engineHangUp_offHook u), told.viewHook, told.answerHook, told.requestHook,
      told.unbroken (.inr ⟨rfl, rfl⟩), told.silent (engineHangUp_offHook u) (engineHangUp_silent u), ?_⟩
    rw [dial]
    refine ⟨rfl, rfl, rfl, rfl, rfl, rfl, rfl, rfl, ?_⟩
    exact only_trans (only_mono (by decide) (only_setDial s d)) (only_trans
      (only_mono (by decide) (answer_reportHangUp o u)) (only_mono (by decide) (call_finish _)))

end

section
/-! The Setup Link: bytes, complete commands, their judgement and their replies. -/

namespace Sys2Proof.Machine

/-! ## The bytes of a command -/

section Bytes

variable {s : State}

theorem settleCommand_none (h : completedCommand s.link.partialCmd = none) : settleCommand s = s :=
  if_neg (by simp [commandDue, h])

theorem settleCommand_some {c : SetupCommand} (h : completedCommand s.link.partialCmd = some c)
    (open' : s.link.awaitRestart = false) : settleCommand s = finish (carryOut c (dropPartial s)) := by
  have due : commandDue s = true := by simp [commandDue, h, open']
  have take : takeCommand s = carryOut c (dropPartial s) := by rw [takeCommand, h]
  exact (if_pos due).trans (congrArg finish take)

theorem gapTimeoutDue_iff (s : State) :
    gapTimeoutDue s = true ↔ s.link.partialCmd ≠ [] ∧ s.link.gap = 0 := by
  simp [gapTimeoutDue]

theorem settleGapTimeout_still (h : s.link.partialCmd = [] ∨ 0 < s.link.gap) :
    settleGapTimeout s = s := by
  refine if_neg fun due => ?_
  obtain ⟨some', out⟩ := (gapTimeoutDue_iff s).mp due
  exact h.elim some' fun pos => absurd out pos.ne'

/-- Bytes that complete nothing, in time, leave nothing to take. -/
theorem settleBytes_still (h : completedCommand s.link.partialCmd = none)
    (gap : s.link.partialCmd = [] ∨ 0 < s.link.gap) : settleBytes s = s := by
  rw [settleBytes, settleCommand_none h, settleGapTimeout_still gap]

theorem carryOut_partialCmd (c : SetupCommand) :
    (carryOut c s).link.partialCmd = s.link.partialCmd := by
  have judged (f : State → State) (h : (f s).link.partialCmd = s.link.partialCmd) :
      (unlessBusy f s).link.partialCmd = s.link.partialCmd := by
    unfold unlessBusy; split; exacts [rfl, h]
  cases c with
  | read n => exact judged _ (by split <;> rfl)
  | enterSetup => unfold carryOut judgeEnter; split_ifs <;> rfl
  | leaveSetup | erase => exact judged _ (by split <;> rfl)
  | write n v => exact judged _ (by simp only [reply]; split <;> rfl)
  | restart => exact judged _ rfl
  | conditions | clearConditions | stateReport | bad _ => rfl

theorem carryOut_inbox (c : SetupCommand) : (carryOut c s).inbox = s.inbox := by
  have judged (f : State → State) (h : (f s).inbox = s.inbox) : (unlessBusy f s).inbox = s.inbox := by
    unfold unlessBusy; split; exacts [rfl, h]
  cases c with
  | read n => exact judged _ (by split <;> rfl)
  | enterSetup => unfold carryOut judgeEnter; split_ifs <;> rfl
  | leaveSetup | erase => exact judged _ (by split <;> rfl)
  | write n v => exact judged _ (by simp only [reply]; split <;> rfl)
  | restart => exact judged _ rfl
  | conditions | clearConditions | stateReport | bad _ => rfl

/-! ## A command that arrives -/

/-- The first bytes of a command complete nothing before its last one is there. -/
theorem completedCommand_prefix {c : SetupCommand} {got : List Byte}
    (part : got.isPrefixOf c.bytes = true) (short : got ≠ c.bytes) : completedCommand got = none := by
  rw [List.isPrefixOf_iff_prefix] at part
  cases c with
  | read n =>
    rcases List.prefix_cons_iff.mp part with rfl | ⟨t, rfl, more⟩
    · rfl
    · rcases List.prefix_cons_iff.mp more with rfl | ⟨u, rfl, none'⟩
      · rfl
      · exact absurd (by rw [List.prefix_nil.mp none']; rfl) short
  | write n v =>
    rcases List.prefix_cons_iff.mp part with rfl | ⟨t, rfl, more⟩
    · rfl
    · rcases List.prefix_cons_iff.mp more with rfl | ⟨u, rfl, more'⟩
      · rfl
      · rcases List.prefix_cons_iff.mp more' with rfl | ⟨w, rfl, none'⟩
        · rfl
        · exact absurd (by rw [List.prefix_nil.mp none']; rfl) short
  | enterSetup | leaveSetup | erase | conditions | clearConditions | stateReport | restart | bad _ =>
    rcases List.prefix_cons_iff.mp part with rfl | ⟨t, rfl, none'⟩
    · rfl
    · exact absurd (by rw [List.prefix_nil.mp none']; rfl) short

/-- The bytes of a command received, whichever of them were received before it. -/
theorem arriveCommand_eq {c : SetupCommand} (whole : completedCommand c.bytes = some c)
    (arrives : SetupCommandArrives c.bytes s) :
    arriveCommand c s = followDial (carryOut c (received c.bytes s)) := by
  obtain ⟨⟨-, inbox⟩, open', part⟩ := arrives
  have quiet (u : State) (h : u.inbox = []) : finish (carryOut c u) = followDial (carryOut c u) :=
    finish_quiet _ ((carryOut_inbox c).trans h)
  by_cases all : s.link.partialCmd = c.bytes
  · have dropped : dropPartial s = received c.bytes s := by
      simp [dropPartial, received, all]
    rw [arriveCommand, if_pos all, settleCommand_some (by rw [all, whole]) open', dropped]
    exact quiet _ inbox
  · have pending : settleCommand s = s := settleCommand_none (completedCommand_prefix part all)
    have rest (u : State) (first' : u.link.partialCmd.isPrefixOf c.bytes = true)
        (awaits : u.link.awaitRestart = false) :
        receiveRest c u = carryOut c (dropPartial (wake u)) := if_pos (by simp [partOf, first', awaits])
    have woken' : dropPartial (wake s) = received c.bytes s := by
      simp [wake_eq, woken, dropPartial, received, all]
    rw [arriveCommand, if_neg all, settleBytes, pending]
    have received' : receiveRest c (settleGapTimeout s) = carryOut c (received c.bytes s) := by
      by_cases due : gapTimeoutDue s = true
      · have late : settleGapTimeout s = dropPartial s := if_pos due
        rw [late, rest (dropPartial s) rfl open', ← woken']
        simp only [wake_eq, dropPartial]
      · have still : settleGapTimeout s = s := if_neg due
        rw [still, rest s part open', woken']
    rw [received']
    exact quiet _ inbox

/-- A command's own step, from whichever of its bytes the part has received. -/
theorem arrived {c : SetupCommand} (whole : completedCommand c.bytes = some c)
    (arrives : SetupCommandArrives c.bytes s) :
    act (arriveCommand c) s = .next (followDial (carryOut c (received c.bytes s))) :=
  (act_of_powered arrives.1.1 (arriveCommand c)).trans (congrArg _ (arriveCommand_eq whole arrives))

/-- A judgement that answers. -/
theorem arrived_answers {c : SetupCommand} {bytes : List Byte} {t : State}
    (whole : completedCommand c.bytes = some c) (arrives : SetupCommandArrives c.bytes s)
    (answers : carryOut c (received c.bytes s) = answered bytes t) :
    act (arriveCommand c) s = .next (followDial (answered bytes t)) :=
  (arrived whole arrives).trans (congrArg (fun u => Host.Outcome.next (followDial u)) answers)

/-! ## The judgements that a busy store decides -/

variable {f : State → State}

theorem unlessBusy_busy (busy : storeBusy s = true) : unlessBusy f s = answered [0x01] s := if_pos busy

theorem unlessBusy_free {t : State} (free : storeBusy s = false) (h : f s = t) : unlessBusy f s = t :=
  (if_neg (Bool.eq_false_iff.mp free)).trans h

theorem completedCommand_bad {b : Byte} (h : b ∉ commandBytes) :
    completedCommand [b] = some (.bad b) := by
  simp only [commandBytes, List.mem_cons, List.not_mem_nil, or_false, not_or] at h
  obtain ⟨read, enter, leave, erase, write, conditions, clear, report, restart⟩ := h
  rw [completedCommand, oneByteCommand, if_neg enter, if_neg leave, if_neg erase, if_neg conditions,
    if_neg clear, if_neg report, if_neg restart]
  exact if_neg (not_or.mpr ⟨read, write⟩)

/-- R163: the status of a WRITE in setup mode, by what the page holds. -/
def cellStatus (n v : Byte) (p : Page) : Status :=
  if 8 < n.toNat then .badCell
  else if v = 0xFF then .badVal
  else if p.c8 ≠ 0xFF then .closed
  else if p.get n.toNat ≠ 0xFF then .used
  else if n = 8 ∧ v ≠ 0xA5 then .badVal
  else .ok

theorem writeStatus_locked {n v : Byte} (h : s.link.setupMode = false) :
    writeStatus n v s = .locked := if_pos (by rw [h]; rfl)

theorem writeStatus_setup {n v : Byte} (h : s.link.setupMode = true) :
    writeStatus n v s = cellStatus n v s.store.page := if_neg (by rw [h]; decide)

theorem judgeWrite_ok {n v : Byte} (free : storeBusy s = false) (h : writeStatus n v s = .ok) :
    judgeWrite n v s = answered [0x00] (beginWrite n v s) :=
  unlessBusy_free free (by simp only [h, if_true]; rfl)

theorem judgeWrite_refused {n v : Byte} (free : storeBusy s = false) {st : Status}
    (h : writeStatus n v s = st) (no : st ≠ .ok) : judgeWrite n v s = answered [st.byte] s :=
  unlessBusy_free free (by simp only [h, if_neg no]; rfl)

end Bytes

/-! ## The entry to setup mode -/

theorem entryAccepted_iff (s : State) :
    entryAccepted s = true ↔ s.settings = none ∨
      s.link.powerOn < 6000 ∧ s.answer.slot = none ∧ s.request.record = none := by
  simp [entryAccepted, isActive, windowOpen, slotEmpty, recordNone, and_assoc]

theorem offline_followed_buffer (d : DialDecoder) (b : Bool) : (d.offline.followed b).buffer = [] := by
  unfold DialDecoder.followed
  split <;> rfl

/-! ## What the reports say -/

theorem conditions_byte (c : Conditions) :
    let bit (b : Bool) (v : Nat) := if b then v else 0
    c.byte.toNat = bit c.overdrive 1 + bit c.brokenWord 2 + bit c.clash 4 + bit c.sendAbandoned 8 +
      bit c.laneFull 16 + bit c.stuckTone 32 + bit c.badTrunkCode 64 := by
  obtain ⟨a, b, c, d, e, f, g⟩ := c
  revert a b c d e f g
  decide

/-- R163: a code's byte, 0 when absent. -/
def codeByteOr (c : Option Code) : Byte := BitVec.ofNat 8 ((c.map (·.val)).getD 0)

/-- R104: the slot's state byte. -/
def phaseByte : Option CallPhase → Byte
  | none => 0
  | some (.ringing _) => 1
  | some .answered => 2
  | some .delivered => 3
  | some .expired => 4

/-- R131: the record's state byte. -/
def requestByte : Option RequestState → Byte
  | none => 0
  | some .requesting => 1
  | some .waiting => 2
  | some .reverting => 3
  | some (.failed _) => 4

theorem partyBytes_eq (r : ViewRecord) :
    r.partyBytes = [codeByteOr (r.parties.map (·.1)), codeByteOr (r.parties.map (·.2))] := by
  unfold ViewRecord.partyBytes
  cases r.parties <;> rfl

theorem slotBytes_eq (slot : Option Call) :
    slotBytes slot = [phaseByte (slot.map (·.phase)), codeByteOr (slot.map (·.caller))] := by
  rcases slot with _ | ⟨phase, caller⟩
  · rfl
  · cases phase <;> rfl

theorem recordBytes_eq (record : Option Request) :
    recordBytes record = [requestByte (record.map (·.state)), codeByteOr (record.map (·.called))] := by
  rcases record with _ | ⟨state, called⟩
  · rfl
  · cases state <;> rfl

theorem stateBytes_eq (s : State) :
    stateBytes s =
      [s.view.record.stateByte,
        codeByteOr (s.view.record.parties.map (·.1)), codeByteOr (s.view.record.parties.map (·.2)),
        phaseByte (s.answer.slot.map (·.phase)), codeByteOr (s.answer.slot.map (·.caller)),
        requestByte (s.request.record.map (·.state)), codeByteOr (s.request.record.map (·.called)),
        laneByte s.tx, floorByte s.det.floor] := by
  rw [stateBytes, partyBytes_eq, slotBytes_eq, recordBytes_eq]
  rfl

end Sys2Proof.Machine
end

section

open Sys2Proof Sys2Proof.Machine

/-- Settles O57. -/
theorem setupLinkTakesBytesAndTimes : Obligations.SetupLinkTakesBytesAndTimes := by
  intro s powered put
  refine ⟨fun b none' gap => ⟨fun open' => ⟨?_, ?_⟩, fun awaits stop => ?_⟩,
    fun c b stop whole open' => ?_, fun some' out => ?_, fun r rest idle waits => ?_,
    fun busy => ?_, fun due => ?_⟩
  · rw [exec_setupByte, if_pos powered, settleBytes_still none' gap]
    exact congrArg _ ((if_neg (Bool.eq_false_iff.mp open')).trans (if_pos rfl))
  · rw [exec_setupByte, if_pos powered, settleBytes_still none' gap]
    exact congrArg _ ((if_neg (Bool.eq_false_iff.mp open')).trans (if_neg (by decide)))
  · rw [exec_setupByte, if_pos powered, settleBytes_still none' gap]
    exact congrArg _ (if_pos awaits)
  · let u := finish (carryOut c (dropPartial s))
    have empty : u.link.partialCmd = [] := by
      have link : u.link = (carryOut c (dropPartial s)).link := call_finish _ .link (by decide)
      rw [link, carryOut_partialCmd]
      rfl
    have power : u.powered = true :=
      ((call_finish _ .powered (by decide)).trans (step_carryOut _ c .powered (by decide))).trans powered
    have taken : settleBytes s = u := by
      rw [settleBytes, settleCommand_some whole open']
      exact settleGapTimeout_still (.inl empty)
    have still : settleBytes u = u := settleBytes_still (by rw [empty]; rfl) (.inl empty)
    have direct : exec (.setupByte b stop) s = .next (takeByte b stop u) := by
      rw [exec_setupByte, if_pos powered, taken]
    have after : exec (.setupByte b stop) u = .next (takeByte b stop u) := by
      rw [exec_setupByte, if_pos power, still]
    exact direct.trans after.symm
  · have due : gapTimeoutDue s = true := (gapTimeoutDue_iff s).mpr ⟨some', out⟩
    exact (act_of_powered powered settleGapTimeout).trans (congrArg _ (if_pos due))
  · have due : replyStartDue s = true := by simp [replyStartDue, idle, waits]
    have take : takeReplyStart s = put { s.link with
        replies := rest, sending := some ⟨r, 100 * r.length⟩ } := by
      rw [takeReplyStart, waits]
    exact (act_of_powered powered settleReplyStart).trans (congrArg _ ((if_pos due).trans take))
  · have notDue : ¬replyStartDue s = true := by
      simpa [replyStartDue, Option.isNone_iff_eq_none, imp_iff_not_or] using busy
    exact (act_of_powered powered settleReplyStart).trans (congrArg _ (if_neg notDue))
  · exact (act_of_powered powered settleWindowClose).trans (congrArg _ (if_pos due))

end

section

open Sys2Proof Sys2Proof.Machine

/-- Settles O58: each report by the judgement of its command, and the bytes of CONDITIONS and STATE by the tables. -/
theorem setupReportsAreAnswered : Obligations.SetupReportsAreAnswered := by
  intro s out
  refine ⟨fun n arrives => ?_, fun arrives => arrived_answers (c := .conditions) rfl arrives rfl,
    conditions_byte s.conds, fun arrives => arrived (c := .clearConditions) rfl arrives,
    fun arrives => arrived_answers (c := .stateReport) rfl arrives rfl, ?_,
    fun b arrives unknown => ?_, fun unset empty floor => ?_⟩
  · have row {bytes : List Byte}
        (h : judgeRead n (received [0x10, n] s) = answered bytes (received [0x10, n] s)) :
        exec (.read n) s = out [0x10, n] bytes := arrived_answers (c := .read n) rfl arrives h
    exact ⟨fun busy => row (unlessBusy_busy busy),
      fun free high => row (unlessBusy_free free (if_pos high)),
      fun free low => row (unlessBusy_free free (if_neg (not_lt.mpr low)))⟩
  · exact stateBytes_eq s
  · have names : namesNoCommand b = true := by simp [namesNoCommand, unknown]
    refine Eq.trans ?_ (arrived_answers (c := .bad b) (completedCommand_bad unknown) arrives rfl)
    refine (act_of_powered arrives.1.1 _).trans (Eq.trans ?_ (act_of_powered arrives.1.1 _).symm)
    exact congrArg _ (if_pos names)
  · obtain ⟨free, -, -, slot, record, -, prompt, request, -⟩ := empty (.inl unset)
    rw [stateBytes_eq, free, slot, record, laneByte, prompt, request]
    rfl

/-- Settles O59: each command by the first row of its judgement that applies. -/
theorem eraseWriteLeaveAndRestartAreJudged : Obligations.EraseWriteLeaveAndRestartAreJudged := by
  refine ⟨?_, ?_⟩
  · intro s out awaiting
    refine ⟨fun arrives => ?_, fun arrives => ?_, fun arrives => ?_⟩
    · have row {bytes : List Byte} {t : State} (h : judgeErase (received [0x30] s) = answered bytes t) :
          exec .erase s = .next (followDial (answered bytes t)) :=
        arrived_answers (c := .erase) rfl arrives h
      exact ⟨fun busy => row (unlessBusy_busy busy),
        fun free closed => row (unlessBusy_free free (if_neg (Bool.eq_false_iff.mp closed))),
        fun free setup => row (unlessBusy_free free (if_pos setup))⟩
    · have row {bytes : List Byte} {t : State} (h : judgeLeave (received [0x21] s) = answered bytes t) :
          exec .leaveSetup s = .next (followDial (answered bytes t)) :=
        arrived_answers (c := .leaveSetup) rfl arrives h
      exact ⟨fun busy => row (unlessBusy_busy busy),
        fun free closed => row (unlessBusy_free free (if_neg (Bool.eq_false_iff.mp closed))),
        fun free setup => row (unlessBusy_free free (if_pos setup))⟩
    · have row {bytes : List Byte} {t : State} (h : judgeRestart (received [0x60] s) = answered bytes t) :
          exec .restart s = .next (followDial (answered bytes t)) :=
        arrived_answers (c := .restart) rfl arrives h
      exact ⟨fun busy => row (unlessBusy_busy busy), fun free => row (unlessBusy_free free rfl)⟩
  · intro n v s arrives out page
    let u := received [0x31, n, v] s
    have row {bytes : List Byte} {t : State} (h : judgeWrite n v u = answered bytes t) :
        exec (.write n v) s = .next (followDial (answered bytes t)) :=
      arrived_answers (c := .write n v) rfl arrives h
    have refuse (free : storeBusy s = false) {st : Status} (h : writeStatus n v u = st) (no : st ≠ .ok) :
        exec (.write n v) s = out [st.byte] := row (judgeWrite_refused (s := u) free h no)
    refine ⟨fun busy => row (unlessBusy_busy busy), fun free => ⟨fun closed => ?_, fun setup => ?_⟩⟩
    · exact refuse free (writeStatus_locked (s := u) closed) (by decide)
    · have status : writeStatus n v u = cellStatus n v page := writeStatus_setup (s := u) setup
      refine ⟨fun high => ?_, fun low blank => ?_, fun low cell => ⟨fun shut => ?_, fun open' used => ?_,
        fun open' unused => ⟨fun valid bad => ?_, fun fits => ?_⟩⟩⟩
      · exact refuse free (st := .badCell) (status.trans (if_pos high)) (by decide)
      · refine refuse free (st := .badVal) (status.trans ?_) (by decide)
        rw [cellStatus, if_neg low.not_gt, if_pos blank]
      · refine refuse free (st := .closed) (status.trans ?_) (by decide)
        rw [cellStatus, if_neg low.not_gt, if_neg cell, if_pos shut]
      · refine refuse free (st := .used) (status.trans ?_) (by decide)
        rw [cellStatus, if_neg low.not_gt, if_neg cell, if_neg (not_not.mpr open'), if_pos used]
      · refine refuse free (st := .badVal) (status.trans ?_) (by decide)
        rw [cellStatus, if_neg low.not_gt, if_neg cell, if_neg (not_not.mpr open'),
          if_neg (not_not.mpr unused), if_pos ⟨valid, bad⟩]
      · refine row (judgeWrite_ok (s := u) free (status.trans ?_))
        rw [cellStatus, if_neg low.not_gt, if_neg cell, if_neg (not_not.mpr open'),
          if_neg (not_not.mpr unused)]
        exact if_neg fun ⟨valid, bad⟩ => fits.elim (fun no => no valid) bad

/-- Settles O60: the three judgements; the emptied blocks are those of `goOffline`, whose discarded dialling stays discarded. -/
theorem enterSetupIsRefusedOrEmptiesTheCalls : Obligations.EnterSetupIsRefusedOrEmptiesTheCalls := by
  intro s arrives out accepted
  let u := received [0x20] s
  have row {bytes : List Byte} {t : State} (h : judgeEnter u = answered bytes t) :
      exec .enterSetup s = .next (followDial (answered bytes t)) :=
    arrived_answers (c := .enterSetup) rfl arrives h
  have accepts : entryAccepted u = true ↔ accepted := entryAccepted_iff u
  refine ⟨fun setup => row (if_pos setup), fun outside no => row ?_, fun outside yes => ?_⟩
  · exact (if_neg (Bool.eq_false_iff.mp outside)).trans (if_neg (mt accepts.mp no))
  · have entered : judgeEnter u = answered [0x00] (goOffline u) :=
      (if_neg (Bool.eq_false_iff.mp outside)).trans (if_pos (accepts.mpr yes))
    refine ⟨_, (row entered).trans (congrArg _ (followDial_eq _)), rfl, rfl,
      fun _ => ⟨rfl, rfl, rfl, rfl, rfl, rfl, rfl, rfl, rfl, rfl, rfl, rfl⟩, rfl, rfl, rfl, rfl, rfl,
      ?_, ?_, rfl, rfl, rfl, rfl, rfl, rfl, ?_⟩
    · exact DialDecoder.followed_hook _ _
    · exact offline_followed_buffer s.dial _
    · intro p notIn
      cases p <;> first | rfl | simp at notIn

end
